-- ==== Sys2Proof/Word.lean ====
section
/-! DEFINITION. The two word sizes of the core: 8-bit registers and bytes, 16-bit addresses, PC, SP and
register pairs (00_scope.md R5: ADDR_BITS, REG8_BITS, PC_BITS, SP_BITS). -/

namespace Sys2Proof

/-- A byte of the bus and an 8-bit register (R5 REG8_BITS = 8, R20). -/
abbrev Byte := BitVec 8

/-- An address, the PC, the SP and a register pair (R5 ADDR_BITS = PC_BITS = SP_BITS = 16, R21, R23, R24). -/
abbrev Word := BitVec 16

end Sys2Proof
end

