-- ==== Sys2Proof/Config.lean ====
section
/-! DEFINITION. The implementation parameters of 00_scope.md R5: the policies a launch may choose, the fixed
values, and the three parameters the spec leaves OPEN (a hash and two text formats), which have no body here. -/

namespace Sys2Proof

/-- ILLEGAL_POLICY (R5, D5): what the 11 unassigned opcodes do. The default is `nop`. -/
inductive IllegalPolicy where
  | nop
  | lock
  deriving DecidableEq, Repr

/-- STOP_POLICY (R5, D6). The default is `nop`. -/
inductive StopPolicy where
  | nop
  | haltForever
  deriving DecidableEq, Repr

/-- MAPPER (R5, R91): `auto` reads header byte 0x0147; the other two bypass the header. -/
inductive MapperChoice where
  | auto
  | romOnly
  | mbc1
  deriving DecidableEq, Repr

/-- OVERSIZE_POLICY (R5, R93): a ROM-only image larger than 32 KiB. The default is `truncate`. -/
inductive OversizePolicy where
  | truncate
  | reject
  deriving DecidableEq, Repr

/-- IO_UNUSED_POLICY (R5, R71): an I/O address with no named register. The default is `storage`. -/
inductive IoUnusedPolicy where
  | storage
  | sentinel
  deriving DecidableEq, Repr

namespace Config

/-- SENTINEL (R5, R74, D14): the byte read where no region backs an address. -/
def sentinel : Byte := 0xFF

/-- RAM_INIT (R5, R38, D32): the content of every RAM byte at reset. -/
def ramInit : Byte := 0x00

/-- DIV_INIT (R5, R38, D33): the timer's 16-bit counter at reset. -/
def divInit : Word := 0xABCC

/-- FB_W and FB_H (R5): the framebuffer is 160 wide and 144 high. -/
def fbWidth : Nat := 160

def fbHeight : Nat := 144

/-- DISASM_RANGE (R5, R160, D36): the default range [0x0000, 0x8000). -/
def disasmStart : Nat := 0x0000

def disasmEnd : Nat := 0x8000

/-- HASH_FN (R5, R95, R488, D38) is OPEN: any deterministic function of a byte sequence.
It has no body, so no claim can rest on a value of it (log entry 3). -/
opaque hashFn : List Byte → Nat

/-- `Hex(op, ops)`, half of DISASM_FORMAT (R161, R163), which is OPEN: a record's hex-byte text, from its opcode and its
operand bytes (log entry 4). The other half, `Config.disasmFormat`, stands in Machine/Disasm.lean, after the type of its
entry. -/
opaque disasmHex : Byte → List Byte → String

/-- The RAM-size code of an MBC1 image of type 0x02 or 0x03 that ends before offset 0x0149: R100 reads header byte 0x0149 and
states no value for an image without it. It has no body (log entry 8). -/
opaque missingRamCode : List Byte → Byte

/-- Which of the four sizes of R100 the cartridge RAM has when MAPPER forces MBC1 on an image whose type byte is none of
0x00..0x03: R91 lets the header be bypassed, and R100 states a size for those types only. It has no body (log entry 8). -/
opaque forcedRamCode : List Byte → BitVec 2

end Config

end Sys2Proof
end

