-- ==== Sys2Proof/Syntax.lean ====
section
/-! DEFINITION. The instruction set: one constructor of `Instr` per row of spec/opcode_table.json (256 base entries,
256 entries behind 0xCB), and the operand names the fields of an opcode select (R131 to R135). The constructor's
name is the row's mnemonic: `m` marks a memory operand (`mhl` is (HL), `ma16` is (a16)), `mhli` and `mhld` are
(HL+) and (HL-). -/

namespace Sys2Proof

/-- The registers an 8-bit register field names (R132). The field value 6, the byte at HL, is no register. -/
inductive R8 where
  | b | c | d | e | h | l | a
  deriving DecidableEq, Repr

/-- The pair table rp (R133). -/
inductive R16 where
  | bc | de | hl | sp
  deriving DecidableEq, Repr

/-- The pair table rp2 of PUSH and POP (R134). -/
inductive R16s where
  | bc | de | hl | af
  deriving DecidableEq, Repr

/-- The condition table cc (R135, R330). -/
inductive Cond where
  | nz | z | nc | c
  deriving DecidableEq, Repr

/-- The 8-bit ALU operations, in the order of the field y (43_alu8.md, common points). -/
inductive Alu where
  | add | adc | sub | sbc | and | xor | or | cp
  deriving DecidableEq, Repr

/-- The prefixed rotates and shifts ROT, in the order of the field y (R138). -/
inductive Rot where
  | rlc | rrc | rl | rr | sla | sra | swap | srl
  deriving DecidableEq, Repr

/-- The bit number of BIT, RES and SET: the field y of the prefixed byte (R136). -/
inductive BitNo where
  | n0 | n1 | n2 | n3 | n4 | n5 | n6 | n7
  deriving DecidableEq, Repr

/-- The restart targets 8 * y of RST (R136, R341). -/
inductive RstNo where
  | t00 | t08 | t10 | t18 | t20 | t28 | t30 | t38
  deriving DecidableEq, Repr

/-- The 11 unassigned base opcodes (R140). -/
inductive IllegalOp where
  | xD3 | xDB | xDD | xE3 | xE4 | xEB | xEC | xED | xF4 | xFC | xFD
  deriving DecidableEq, Repr

/-- The instructions: R137 (base table) and R138 (prefixed table). The base entries with operand bytes stand first,
because a constructor that carries data must have one of the first 244 tags for the type to be compiled at all.
`prefix_cb b` is the base table's entry for 0xCB with its operand byte (R365). -/
inductive Instr where
  -- base entries with operand bytes (R139, lengths 2 and 3)
  | ld_bc_n16 (n : Word)
  | ld_b_n8 (n : Byte)
  | ld_ma16_sp (n : Word)
  | ld_c_n8 (n : Byte)
  | stop_n8 (n : Byte)
  | ld_de_n16 (n : Word)
  | ld_d_n8 (n : Byte)
  | jr_e8 (e : Byte)
  | ld_e_n8 (n : Byte)
  | jr_nz_e8 (e : Byte)
  | ld_hl_n16 (n : Word)
  | ld_h_n8 (n : Byte)
  | jr_z_e8 (e : Byte)
  | ld_l_n8 (n : Byte)
  | jr_nc_e8 (e : Byte)
  | ld_sp_n16 (n : Word)
  | ld_mhl_n8 (n : Byte)
  | jr_c_e8 (e : Byte)
  | ld_a_n8 (n : Byte)
  | jp_nz_a16 (n : Word)
  | jp_a16 (n : Word)
  | call_nz_a16 (n : Word)
  | add_a_n8 (n : Byte)
  | jp_z_a16 (n : Word)
  | prefix_cb (b : Byte)
  | call_z_a16 (n : Word)
  | call_a16 (n : Word)
  | adc_a_n8 (n : Byte)
  | jp_nc_a16 (n : Word)
  | call_nc_a16 (n : Word)
  | sub_n8 (n : Byte)
  | jp_c_a16 (n : Word)
  | call_c_a16 (n : Word)
  | sbc_a_n8 (n : Byte)
  | ldh_ma8_a (n : Byte)
  | and_n8 (n : Byte)
  | add_sp_e8 (e : Byte)
  | ld_ma16_a (n : Word)
  | xor_n8 (n : Byte)
  | ldh_a_ma8 (n : Byte)
  | or_n8 (n : Byte)
  | ld_hl_spe8 (e : Byte)
  | ld_a_ma16 (n : Word)
  | cp_n8 (n : Byte)
  -- base row 0x, entries without operand bytes
  | nop | ld_mbc_a | inc_bc | inc_b | dec_b | rlca | add_hl_bc | ld_a_mbc
  | dec_bc | inc_c | dec_c | rrca
  -- base row 1x, entries without operand bytes
  | ld_mde_a | inc_de | inc_d | dec_d | rla | add_hl_de | ld_a_mde | dec_de
  | inc_e | dec_e | rra
  -- base row 2x, entries without operand bytes
  | ld_mhli_a | inc_hl | inc_h | dec_h | daa | add_hl_hl | ld_a_mhli | dec_hl
  | inc_l | dec_l | cpl
  -- base row 3x, entries without operand bytes
  | ld_mhld_a | inc_sp | inc_mhl | dec_mhl | scf | add_hl_sp | ld_a_mhld | dec_sp
  | inc_a | dec_a | ccf
  -- base row 4x, entries without operand bytes
  | ld_b_b | ld_b_c | ld_b_d | ld_b_e | ld_b_h | ld_b_l | ld_b_mhl | ld_b_a
  | ld_c_b | ld_c_c | ld_c_d | ld_c_e | ld_c_h | ld_c_l | ld_c_mhl | ld_c_a
  -- base row 5x, entries without operand bytes
  | ld_d_b | ld_d_c | ld_d_d | ld_d_e | ld_d_h | ld_d_l | ld_d_mhl | ld_d_a
  | ld_e_b | ld_e_c | ld_e_d | ld_e_e | ld_e_h | ld_e_l | ld_e_mhl | ld_e_a
  -- base row 6x, entries without operand bytes
  | ld_h_b | ld_h_c | ld_h_d | ld_h_e | ld_h_h | ld_h_l | ld_h_mhl | ld_h_a
  | ld_l_b | ld_l_c | ld_l_d | ld_l_e | ld_l_h | ld_l_l | ld_l_mhl | ld_l_a
  -- base row 7x, entries without operand bytes
  | ld_mhl_b | ld_mhl_c | ld_mhl_d | ld_mhl_e | ld_mhl_h | ld_mhl_l | halt | ld_mhl_a
  | ld_a_b | ld_a_c | ld_a_d | ld_a_e | ld_a_h | ld_a_l | ld_a_mhl | ld_a_a
  -- base row 8x, entries without operand bytes
  | add_a_b | add_a_c | add_a_d | add_a_e | add_a_h | add_a_l | add_a_mhl | add_a_a
  | adc_a_b | adc_a_c | adc_a_d | adc_a_e | adc_a_h | adc_a_l | adc_a_mhl | adc_a_a
  -- base row 9x, entries without operand bytes
  | sub_b | sub_c | sub_d | sub_e | sub_h | sub_l | sub_mhl | sub_a
  | sbc_a_b | sbc_a_c | sbc_a_d | sbc_a_e | sbc_a_h | sbc_a_l | sbc_a_mhl | sbc_a_a
  -- base row Ax, entries without operand bytes
  | and_b | and_c | and_d | and_e | and_h | and_l | and_mhl | and_a
  | xor_b | xor_c | xor_d | xor_e | xor_h | xor_l | xor_mhl | xor_a
  -- base row Bx, entries without operand bytes
  | or_b | or_c | or_d | or_e | or_h | or_l | or_mhl | or_a
  | cp_b | cp_c | cp_d | cp_e | cp_h | cp_l | cp_mhl | cp_a
  -- base row Cx, entries without operand bytes
  | ret_nz | pop_bc | push_bc | rst_00h | ret_z | ret | rst_08h
  -- base row Dx, entries without operand bytes
  | ret_nc | pop_de | illegal_d3 | push_de | rst_10h | ret_c | reti | illegal_db
  | illegal_dd | rst_18h
  -- base row Ex, entries without operand bytes
  | pop_hl | ld_mc_a | illegal_e3 | illegal_e4 | push_hl | rst_20h | jp_hl | illegal_eb
  | illegal_ec | illegal_ed | rst_28h
  -- base row Fx, entries without operand bytes
  | pop_af | ld_a_mc | di | illegal_f4 | push_af | rst_30h | ld_sp_hl | ei
  | illegal_fc | illegal_fd | rst_38h
  -- prefixed row CB 0x
  | rlc_b | rlc_c | rlc_d | rlc_e | rlc_h | rlc_l | rlc_mhl | rlc_a
  | rrc_b | rrc_c | rrc_d | rrc_e | rrc_h | rrc_l | rrc_mhl | rrc_a
  -- prefixed row CB 1x
  | rl_b | rl_c | rl_d | rl_e | rl_h | rl_l | rl_mhl | rl_a
  | rr_b | rr_c | rr_d | rr_e | rr_h | rr_l | rr_mhl | rr_a
  -- prefixed row CB 2x
  | sla_b | sla_c | sla_d | sla_e | sla_h | sla_l | sla_mhl | sla_a
  | sra_b | sra_c | sra_d | sra_e | sra_h | sra_l | sra_mhl | sra_a
  -- prefixed row CB 3x
  | swap_b | swap_c | swap_d | swap_e | swap_h | swap_l | swap_mhl | swap_a
  | srl_b | srl_c | srl_d | srl_e | srl_h | srl_l | srl_mhl | srl_a
  -- prefixed row CB 4x
  | bit_0_b | bit_0_c | bit_0_d | bit_0_e | bit_0_h | bit_0_l | bit_0_mhl | bit_0_a
  | bit_1_b | bit_1_c | bit_1_d | bit_1_e | bit_1_h | bit_1_l | bit_1_mhl | bit_1_a
  -- prefixed row CB 5x
  | bit_2_b | bit_2_c | bit_2_d | bit_2_e | bit_2_h | bit_2_l | bit_2_mhl | bit_2_a
  | bit_3_b | bit_3_c | bit_3_d | bit_3_e | bit_3_h | bit_3_l | bit_3_mhl | bit_3_a
  -- prefixed row CB 6x
  | bit_4_b | bit_4_c | bit_4_d | bit_4_e | bit_4_h | bit_4_l | bit_4_mhl | bit_4_a
  | bit_5_b | bit_5_c | bit_5_d | bit_5_e | bit_5_h | bit_5_l | bit_5_mhl | bit_5_a
  -- prefixed row CB 7x
  | bit_6_b | bit_6_c | bit_6_d | bit_6_e | bit_6_h | bit_6_l | bit_6_mhl | bit_6_a
  | bit_7_b | bit_7_c | bit_7_d | bit_7_e | bit_7_h | bit_7_l | bit_7_mhl | bit_7_a
  -- prefixed row CB 8x
  | res_0_b | res_0_c | res_0_d | res_0_e | res_0_h | res_0_l | res_0_mhl | res_0_a
  | res_1_b | res_1_c | res_1_d | res_1_e | res_1_h | res_1_l | res_1_mhl | res_1_a
  -- prefixed row CB 9x
  | res_2_b | res_2_c | res_2_d | res_2_e | res_2_h | res_2_l | res_2_mhl | res_2_a
  | res_3_b | res_3_c | res_3_d | res_3_e | res_3_h | res_3_l | res_3_mhl | res_3_a
  -- prefixed row CB Ax
  | res_4_b | res_4_c | res_4_d | res_4_e | res_4_h | res_4_l | res_4_mhl | res_4_a
  | res_5_b | res_5_c | res_5_d | res_5_e | res_5_h | res_5_l | res_5_mhl | res_5_a
  -- prefixed row CB Bx
  | res_6_b | res_6_c | res_6_d | res_6_e | res_6_h | res_6_l | res_6_mhl | res_6_a
  | res_7_b | res_7_c | res_7_d | res_7_e | res_7_h | res_7_l | res_7_mhl | res_7_a
  -- prefixed row CB Cx
  | set_0_b | set_0_c | set_0_d | set_0_e | set_0_h | set_0_l | set_0_mhl | set_0_a
  | set_1_b | set_1_c | set_1_d | set_1_e | set_1_h | set_1_l | set_1_mhl | set_1_a
  -- prefixed row CB Dx
  | set_2_b | set_2_c | set_2_d | set_2_e | set_2_h | set_2_l | set_2_mhl | set_2_a
  | set_3_b | set_3_c | set_3_d | set_3_e | set_3_h | set_3_l | set_3_mhl | set_3_a
  -- prefixed row CB Ex
  | set_4_b | set_4_c | set_4_d | set_4_e | set_4_h | set_4_l | set_4_mhl | set_4_a
  | set_5_b | set_5_c | set_5_d | set_5_e | set_5_h | set_5_l | set_5_mhl | set_5_a
  -- prefixed row CB Fx
  | set_6_b | set_6_c | set_6_d | set_6_e | set_6_h | set_6_l | set_6_mhl | set_6_a
  | set_7_b | set_7_c | set_7_d | set_7_e | set_7_h | set_7_l | set_7_mhl | set_7_a
  deriving DecidableEq, Repr

namespace Instr

/-- LD r,r' (R201) as a function of its two register fields. -/
def ldRegReg : R8 → R8 → Instr
  | .b, .b => .ld_b_b
  | .b, .c => .ld_b_c
  | .b, .d => .ld_b_d
  | .b, .e => .ld_b_e
  | .b, .h => .ld_b_h
  | .b, .l => .ld_b_l
  | .b, .a => .ld_b_a
  | .c, .b => .ld_c_b
  | .c, .c => .ld_c_c
  | .c, .d => .ld_c_d
  | .c, .e => .ld_c_e
  | .c, .h => .ld_c_h
  | .c, .l => .ld_c_l
  | .c, .a => .ld_c_a
  | .d, .b => .ld_d_b
  | .d, .c => .ld_d_c
  | .d, .d => .ld_d_d
  | .d, .e => .ld_d_e
  | .d, .h => .ld_d_h
  | .d, .l => .ld_d_l
  | .d, .a => .ld_d_a
  | .e, .b => .ld_e_b
  | .e, .c => .ld_e_c
  | .e, .d => .ld_e_d
  | .e, .e => .ld_e_e
  | .e, .h => .ld_e_h
  | .e, .l => .ld_e_l
  | .e, .a => .ld_e_a
  | .h, .b => .ld_h_b
  | .h, .c => .ld_h_c
  | .h, .d => .ld_h_d
  | .h, .e => .ld_h_e
  | .h, .h => .ld_h_h
  | .h, .l => .ld_h_l
  | .h, .a => .ld_h_a
  | .l, .b => .ld_l_b
  | .l, .c => .ld_l_c
  | .l, .d => .ld_l_d
  | .l, .e => .ld_l_e
  | .l, .h => .ld_l_h
  | .l, .l => .ld_l_l
  | .l, .a => .ld_l_a
  | .a, .b => .ld_a_b
  | .a, .c => .ld_a_c
  | .a, .d => .ld_a_d
  | .a, .e => .ld_a_e
  | .a, .h => .ld_a_h
  | .a, .l => .ld_a_l
  | .a, .a => .ld_a_a

/-- LD r,n8 (R202). -/
def ldRegImm : R8 → Byte → Instr
  | .b, n => .ld_b_n8 n
  | .c, n => .ld_c_n8 n
  | .d, n => .ld_d_n8 n
  | .e, n => .ld_e_n8 n
  | .h, n => .ld_h_n8 n
  | .l, n => .ld_l_n8 n
  | .a, n => .ld_a_n8 n

/-- LD r,(HL) (R203). -/
def ldRegMem : R8 → Instr
  | .b => .ld_b_mhl
  | .c => .ld_c_mhl
  | .d => .ld_d_mhl
  | .e => .ld_e_mhl
  | .h => .ld_h_mhl
  | .l => .ld_l_mhl
  | .a => .ld_a_mhl

/-- LD (HL),r (R204). -/
def ldMemReg : R8 → Instr
  | .b => .ld_mhl_b
  | .c => .ld_mhl_c
  | .d => .ld_mhl_d
  | .e => .ld_mhl_e
  | .h => .ld_mhl_h
  | .l => .ld_mhl_l
  | .a => .ld_mhl_a

/-- The ALU operations on a register (R252, R255, R258, R261, R264, R267, R270, R273). -/
def aluReg : Alu → R8 → Instr
  | .add, .b => .add_a_b
  | .add, .c => .add_a_c
  | .add, .d => .add_a_d
  | .add, .e => .add_a_e
  | .add, .h => .add_a_h
  | .add, .l => .add_a_l
  | .add, .a => .add_a_a
  | .adc, .b => .adc_a_b
  | .adc, .c => .adc_a_c
  | .adc, .d => .adc_a_d
  | .adc, .e => .adc_a_e
  | .adc, .h => .adc_a_h
  | .adc, .l => .adc_a_l
  | .adc, .a => .adc_a_a
  | .sub, .b => .sub_b
  | .sub, .c => .sub_c
  | .sub, .d => .sub_d
  | .sub, .e => .sub_e
  | .sub, .h => .sub_h
  | .sub, .l => .sub_l
  | .sub, .a => .sub_a
  | .sbc, .b => .sbc_a_b
  | .sbc, .c => .sbc_a_c
  | .sbc, .d => .sbc_a_d
  | .sbc, .e => .sbc_a_e
  | .sbc, .h => .sbc_a_h
  | .sbc, .l => .sbc_a_l
  | .sbc, .a => .sbc_a_a
  | .and, .b => .and_b
  | .and, .c => .and_c
  | .and, .d => .and_d
  | .and, .e => .and_e
  | .and, .h => .and_h
  | .and, .l => .and_l
  | .and, .a => .and_a
  | .xor, .b => .xor_b
  | .xor, .c => .xor_c
  | .xor, .d => .xor_d
  | .xor, .e => .xor_e
  | .xor, .h => .xor_h
  | .xor, .l => .xor_l
  | .xor, .a => .xor_a
  | .or, .b => .or_b
  | .or, .c => .or_c
  | .or, .d => .or_d
  | .or, .e => .or_e
  | .or, .h => .or_h
  | .or, .l => .or_l
  | .or, .a => .or_a
  | .cp, .b => .cp_b
  | .cp, .c => .cp_c
  | .cp, .d => .cp_d
  | .cp, .e => .cp_e
  | .cp, .h => .cp_h
  | .cp, .l => .cp_l
  | .cp, .a => .cp_a

/-- The ALU operations on the byte at HL (R253, R256, R259, R262, R265, R268, R271, R274). -/
def aluMem : Alu → Instr
  | .add => .add_a_mhl
  | .adc => .adc_a_mhl
  | .sub => .sub_mhl
  | .sbc => .sbc_a_mhl
  | .and => .and_mhl
  | .xor => .xor_mhl
  | .or => .or_mhl
  | .cp => .cp_mhl

/-- The ALU operations on an immediate (R254, R257, R260, R263, R266, R269, R272, R275). -/
def aluImm : Alu → Byte → Instr
  | .add, n => .add_a_n8 n
  | .adc, n => .adc_a_n8 n
  | .sub, n => .sub_n8 n
  | .sbc, n => .sbc_a_n8 n
  | .and, n => .and_n8 n
  | .xor, n => .xor_n8 n
  | .or, n => .or_n8 n
  | .cp, n => .cp_n8 n

/-- INC r (R276). -/
def incReg : R8 → Instr
  | .b => .inc_b
  | .c => .inc_c
  | .d => .inc_d
  | .e => .inc_e
  | .h => .inc_h
  | .l => .inc_l
  | .a => .inc_a

/-- DEC r (R278). -/
def decReg : R8 → Instr
  | .b => .dec_b
  | .c => .dec_c
  | .d => .dec_d
  | .e => .dec_e
  | .h => .dec_h
  | .l => .dec_l
  | .a => .dec_a

/-- LD rr,n16 (R230). -/
def ldPairImm : R16 → Word → Instr
  | .bc, n => .ld_bc_n16 n
  | .de, n => .ld_de_n16 n
  | .hl, n => .ld_hl_n16 n
  | .sp, n => .ld_sp_n16 n

/-- ADD HL,rr (R290). -/
def addHlPair : R16 → Instr
  | .bc => .add_hl_bc
  | .de => .add_hl_de
  | .hl => .add_hl_hl
  | .sp => .add_hl_sp

/-- INC rr (R291). -/
def incPair : R16 → Instr
  | .bc => .inc_bc
  | .de => .inc_de
  | .hl => .inc_hl
  | .sp => .inc_sp

/-- DEC rr (R292). -/
def decPair : R16 → Instr
  | .bc => .dec_bc
  | .de => .dec_de
  | .hl => .dec_hl
  | .sp => .dec_sp

/-- PUSH rr (R234). -/
def pushPair : R16s → Instr
  | .bc => .push_bc
  | .de => .push_de
  | .hl => .push_hl
  | .af => .push_af

/-- POP rr (R235, and R236 for AF). -/
def popPair : R16s → Instr
  | .bc => .pop_bc
  | .de => .pop_de
  | .hl => .pop_hl
  | .af => .pop_af

/-- JP cc,a16 (R332). -/
def jpCond : Cond → Word → Instr
  | .nz, n => .jp_nz_a16 n
  | .z, n => .jp_z_a16 n
  | .nc, n => .jp_nc_a16 n
  | .c, n => .jp_c_a16 n

/-- JR cc,e8 (R335). -/
def jrCond : Cond → Byte → Instr
  | .nz, e => .jr_nz_e8 e
  | .z, e => .jr_z_e8 e
  | .nc, e => .jr_nc_e8 e
  | .c, e => .jr_c_e8 e

/-- CALL cc,a16 (R337). -/
def callCond : Cond → Word → Instr
  | .nz, n => .call_nz_a16 n
  | .z, n => .call_z_a16 n
  | .nc, n => .call_nc_a16 n
  | .c, n => .call_c_a16 n

/-- RET cc (R339). -/
def retCond : Cond → Instr
  | .nz => .ret_nz
  | .z => .ret_z
  | .nc => .ret_nc
  | .c => .ret_c

/-- RST n (R341). -/
def rst : RstNo → Instr
  | .t00 => .rst_00h
  | .t08 => .rst_08h
  | .t10 => .rst_10h
  | .t18 => .rst_18h
  | .t20 => .rst_20h
  | .t28 => .rst_28h
  | .t30 => .rst_30h
  | .t38 => .rst_38h

/-- The unassigned opcodes (R366). -/
def illegal : IllegalOp → Instr
  | .xD3 => .illegal_d3
  | .xDB => .illegal_db
  | .xDD => .illegal_dd
  | .xE3 => .illegal_e3
  | .xE4 => .illegal_e4
  | .xEB => .illegal_eb
  | .xEC => .illegal_ec
  | .xED => .illegal_ed
  | .xF4 => .illegal_f4
  | .xFC => .illegal_fc
  | .xFD => .illegal_fd

/-- The prefixed rotates and shifts on a register (R305 to R319, odd). -/
def rotReg : Rot → R8 → Instr
  | .rlc, .b => .rlc_b
  | .rlc, .c => .rlc_c
  | .rlc, .d => .rlc_d
  | .rlc, .e => .rlc_e
  | .rlc, .h => .rlc_h
  | .rlc, .l => .rlc_l
  | .rlc, .a => .rlc_a
  | .rrc, .b => .rrc_b
  | .rrc, .c => .rrc_c
  | .rrc, .d => .rrc_d
  | .rrc, .e => .rrc_e
  | .rrc, .h => .rrc_h
  | .rrc, .l => .rrc_l
  | .rrc, .a => .rrc_a
  | .rl, .b => .rl_b
  | .rl, .c => .rl_c
  | .rl, .d => .rl_d
  | .rl, .e => .rl_e
  | .rl, .h => .rl_h
  | .rl, .l => .rl_l
  | .rl, .a => .rl_a
  | .rr, .b => .rr_b
  | .rr, .c => .rr_c
  | .rr, .d => .rr_d
  | .rr, .e => .rr_e
  | .rr, .h => .rr_h
  | .rr, .l => .rr_l
  | .rr, .a => .rr_a
  | .sla, .b => .sla_b
  | .sla, .c => .sla_c
  | .sla, .d => .sla_d
  | .sla, .e => .sla_e
  | .sla, .h => .sla_h
  | .sla, .l => .sla_l
  | .sla, .a => .sla_a
  | .sra, .b => .sra_b
  | .sra, .c => .sra_c
  | .sra, .d => .sra_d
  | .sra, .e => .sra_e
  | .sra, .h => .sra_h
  | .sra, .l => .sra_l
  | .sra, .a => .sra_a
  | .swap, .b => .swap_b
  | .swap, .c => .swap_c
  | .swap, .d => .swap_d
  | .swap, .e => .swap_e
  | .swap, .h => .swap_h
  | .swap, .l => .swap_l
  | .swap, .a => .swap_a
  | .srl, .b => .srl_b
  | .srl, .c => .srl_c
  | .srl, .d => .srl_d
  | .srl, .e => .srl_e
  | .srl, .h => .srl_h
  | .srl, .l => .srl_l
  | .srl, .a => .srl_a

/-- The prefixed rotates and shifts on the byte at HL (R306 to R320, even). -/
def rotMem : Rot → Instr
  | .rlc => .rlc_mhl
  | .rrc => .rrc_mhl
  | .rl => .rl_mhl
  | .rr => .rr_mhl
  | .sla => .sla_mhl
  | .sra => .sra_mhl
  | .swap => .swap_mhl
  | .srl => .srl_mhl

/-- BIT n,r (R321). -/
def bitReg : BitNo → R8 → Instr
  | .n0, .b => .bit_0_b
  | .n0, .c => .bit_0_c
  | .n0, .d => .bit_0_d
  | .n0, .e => .bit_0_e
  | .n0, .h => .bit_0_h
  | .n0, .l => .bit_0_l
  | .n0, .a => .bit_0_a
  | .n1, .b => .bit_1_b
  | .n1, .c => .bit_1_c
  | .n1, .d => .bit_1_d
  | .n1, .e => .bit_1_e
  | .n1, .h => .bit_1_h
  | .n1, .l => .bit_1_l
  | .n1, .a => .bit_1_a
  | .n2, .b => .bit_2_b
  | .n2, .c => .bit_2_c
  | .n2, .d => .bit_2_d
  | .n2, .e => .bit_2_e
  | .n2, .h => .bit_2_h
  | .n2, .l => .bit_2_l
  | .n2, .a => .bit_2_a
  | .n3, .b => .bit_3_b
  | .n3, .c => .bit_3_c
  | .n3, .d => .bit_3_d
  | .n3, .e => .bit_3_e
  | .n3, .h => .bit_3_h
  | .n3, .l => .bit_3_l
  | .n3, .a => .bit_3_a
  | .n4, .b => .bit_4_b
  | .n4, .c => .bit_4_c
  | .n4, .d => .bit_4_d
  | .n4, .e => .bit_4_e
  | .n4, .h => .bit_4_h
  | .n4, .l => .bit_4_l
  | .n4, .a => .bit_4_a
  | .n5, .b => .bit_5_b
  | .n5, .c => .bit_5_c
  | .n5, .d => .bit_5_d
  | .n5, .e => .bit_5_e
  | .n5, .h => .bit_5_h
  | .n5, .l => .bit_5_l
  | .n5, .a => .bit_5_a
  | .n6, .b => .bit_6_b
  | .n6, .c => .bit_6_c
  | .n6, .d => .bit_6_d
  | .n6, .e => .bit_6_e
  | .n6, .h => .bit_6_h
  | .n6, .l => .bit_6_l
  | .n6, .a => .bit_6_a
  | .n7, .b => .bit_7_b
  | .n7, .c => .bit_7_c
  | .n7, .d => .bit_7_d
  | .n7, .e => .bit_7_e
  | .n7, .h => .bit_7_h
  | .n7, .l => .bit_7_l
  | .n7, .a => .bit_7_a

/-- BIT n,(HL) (R322). -/
def bitMem : BitNo → Instr
  | .n0 => .bit_0_mhl
  | .n1 => .bit_1_mhl
  | .n2 => .bit_2_mhl
  | .n3 => .bit_3_mhl
  | .n4 => .bit_4_mhl
  | .n5 => .bit_5_mhl
  | .n6 => .bit_6_mhl
  | .n7 => .bit_7_mhl

/-- RES n,r (R323). -/
def resReg : BitNo → R8 → Instr
  | .n0, .b => .res_0_b
  | .n0, .c => .res_0_c
  | .n0, .d => .res_0_d
  | .n0, .e => .res_0_e
  | .n0, .h => .res_0_h
  | .n0, .l => .res_0_l
  | .n0, .a => .res_0_a
  | .n1, .b => .res_1_b
  | .n1, .c => .res_1_c
  | .n1, .d => .res_1_d
  | .n1, .e => .res_1_e
  | .n1, .h => .res_1_h
  | .n1, .l => .res_1_l
  | .n1, .a => .res_1_a
  | .n2, .b => .res_2_b
  | .n2, .c => .res_2_c
  | .n2, .d => .res_2_d
  | .n2, .e => .res_2_e
  | .n2, .h => .res_2_h
  | .n2, .l => .res_2_l
  | .n2, .a => .res_2_a
  | .n3, .b => .res_3_b
  | .n3, .c => .res_3_c
  | .n3, .d => .res_3_d
  | .n3, .e => .res_3_e
  | .n3, .h => .res_3_h
  | .n3, .l => .res_3_l
  | .n3, .a => .res_3_a
  | .n4, .b => .res_4_b
  | .n4, .c => .res_4_c
  | .n4, .d => .res_4_d
  | .n4, .e => .res_4_e
  | .n4, .h => .res_4_h
  | .n4, .l => .res_4_l
  | .n4, .a => .res_4_a
  | .n5, .b => .res_5_b
  | .n5, .c => .res_5_c
  | .n5, .d => .res_5_d
  | .n5, .e => .res_5_e
  | .n5, .h => .res_5_h
  | .n5, .l => .res_5_l
  | .n5, .a => .res_5_a
  | .n6, .b => .res_6_b
  | .n6, .c => .res_6_c
  | .n6, .d => .res_6_d
  | .n6, .e => .res_6_e
  | .n6, .h => .res_6_h
  | .n6, .l => .res_6_l
  | .n6, .a => .res_6_a
  | .n7, .b => .res_7_b
  | .n7, .c => .res_7_c
  | .n7, .d => .res_7_d
  | .n7, .e => .res_7_e
  | .n7, .h => .res_7_h
  | .n7, .l => .res_7_l
  | .n7, .a => .res_7_a

/-- RES n,(HL) (R324). -/
def resMem : BitNo → Instr
  | .n0 => .res_0_mhl
  | .n1 => .res_1_mhl
  | .n2 => .res_2_mhl
  | .n3 => .res_3_mhl
  | .n4 => .res_4_mhl
  | .n5 => .res_5_mhl
  | .n6 => .res_6_mhl
  | .n7 => .res_7_mhl

/-- SET n,r (R325). -/
def setReg : BitNo → R8 → Instr
  | .n0, .b => .set_0_b
  | .n0, .c => .set_0_c
  | .n0, .d => .set_0_d
  | .n0, .e => .set_0_e
  | .n0, .h => .set_0_h
  | .n0, .l => .set_0_l
  | .n0, .a => .set_0_a
  | .n1, .b => .set_1_b
  | .n1, .c => .set_1_c
  | .n1, .d => .set_1_d
  | .n1, .e => .set_1_e
  | .n1, .h => .set_1_h
  | .n1, .l => .set_1_l
  | .n1, .a => .set_1_a
  | .n2, .b => .set_2_b
  | .n2, .c => .set_2_c
  | .n2, .d => .set_2_d
  | .n2, .e => .set_2_e
  | .n2, .h => .set_2_h
  | .n2, .l => .set_2_l
  | .n2, .a => .set_2_a
  | .n3, .b => .set_3_b
  | .n3, .c => .set_3_c
  | .n3, .d => .set_3_d
  | .n3, .e => .set_3_e
  | .n3, .h => .set_3_h
  | .n3, .l => .set_3_l
  | .n3, .a => .set_3_a
  | .n4, .b => .set_4_b
  | .n4, .c => .set_4_c
  | .n4, .d => .set_4_d
  | .n4, .e => .set_4_e
  | .n4, .h => .set_4_h
  | .n4, .l => .set_4_l
  | .n4, .a => .set_4_a
  | .n5, .b => .set_5_b
  | .n5, .c => .set_5_c
  | .n5, .d => .set_5_d
  | .n5, .e => .set_5_e
  | .n5, .h => .set_5_h
  | .n5, .l => .set_5_l
  | .n5, .a => .set_5_a
  | .n6, .b => .set_6_b
  | .n6, .c => .set_6_c
  | .n6, .d => .set_6_d
  | .n6, .e => .set_6_e
  | .n6, .h => .set_6_h
  | .n6, .l => .set_6_l
  | .n6, .a => .set_6_a
  | .n7, .b => .set_7_b
  | .n7, .c => .set_7_c
  | .n7, .d => .set_7_d
  | .n7, .e => .set_7_e
  | .n7, .h => .set_7_h
  | .n7, .l => .set_7_l
  | .n7, .a => .set_7_a

/-- SET n,(HL) (R326). -/
def setMem : BitNo → Instr
  | .n0 => .set_0_mhl
  | .n1 => .set_1_mhl
  | .n2 => .set_2_mhl
  | .n3 => .set_3_mhl
  | .n4 => .set_4_mhl
  | .n5 => .set_5_mhl
  | .n6 => .set_6_mhl
  | .n7 => .set_7_mhl

end Instr

end Sys2Proof
end

