-- ==== Sys2Proof/WellFormed.lean ====
section
/-! DEFINITION. Well-formedness of an instruction term. Every operand's width is its type's (R136), and every
field value of an assigned opcode selects an instruction (R141), so one check is left: the bare prefix. -/

namespace Sys2Proof

/-- A term is well formed when it is the decoder's name for its bytes. The base table's PREFIX CB entry is not: with
its operand byte `b` it IS the prefixed table's entry CB[b] (R143, R365), and the decoder answers that entry. -/
def Instr.wellFormed : Instr → Bool
  | .prefix_cb _ => false
  | _ => true

end Sys2Proof
end

