-- ==== Sys2Proof/Decode.lean ====
section
/-! DEFINITION. The decoder (R130 to R143): total on any bytes, rejecting a truncated instruction by name; the
operand-length class `skip` (R139); and after it the encoder, written from the same tables. -/

namespace Sys2Proof

/-- The low byte `v[7:0]` (R6). -/
def loByte (v : Word) : Byte := v.setWidth 8

/-- The high byte `v[15:8]` (R6). -/
def hiByte (v : Word) : Byte := (v >>> 8).setWidth 8

/-- The concatenation `hi:lo` (R6). -/
def wordOf (hi lo : Byte) : Word := hi ++ lo

/-- `sext_8` into a 16-bit value, modulo 2^16 (R7). -/
def sext8 (v : Byte) : Word := v.signExtend 16

/-- The base opcodes of length 2 (R139). -/
def lengthTwo : List Byte :=
  [0x06, 0x0E, 0x16, 0x1E, 0x26, 0x2E, 0x36, 0x3E] ++ [0x10] ++ [0x18, 0x20, 0x28, 0x30, 0x38] ++
  [0xC6, 0xCE, 0xD6, 0xDE, 0xE6, 0xEE, 0xF6, 0xFE] ++ [0xCB] ++ [0xE0, 0xF0] ++ [0xE8] ++ [0xF8]

/-- The base opcodes of length 3 (R139). -/
def lengthThree : List Byte :=
  [0x01, 0x11, 0x21, 0x31] ++ [0x08] ++ [0xC2, 0xC3, 0xCA, 0xD2, 0xDA] ++ [0xC4, 0xCC, 0xCD, 0xD4, 0xDC] ++
  [0xEA, 0xFA]

/-- `BASE[op].skip`: the operand bytes after the opcode (R130, R139). -/
def skip (op : Byte) : Nat :=
  if op ∈ lengthTwo then 1 else if op ∈ lengthThree then 2 else 0

/-- Row 0x of the base table (R142). -/
def baseRow0 (b1 : Byte) (n16 : Word) : List Instr :=
  [.nop, .ld_bc_n16 n16, .ld_mbc_a, .inc_bc,
   .inc_b, .dec_b, .ld_b_n8 b1, .rlca,
   .ld_ma16_sp n16, .add_hl_bc, .ld_a_mbc, .dec_bc,
   .inc_c, .dec_c, .ld_c_n8 b1, .rrca]

/-- Row 1x of the base table (R142). -/
def baseRow1 (b1 : Byte) (n16 : Word) : List Instr :=
  [.stop_n8 b1, .ld_de_n16 n16, .ld_mde_a, .inc_de,
   .inc_d, .dec_d, .ld_d_n8 b1, .rla,
   .jr_e8 b1, .add_hl_de, .ld_a_mde, .dec_de,
   .inc_e, .dec_e, .ld_e_n8 b1, .rra]

/-- Row 2x of the base table (R142). -/
def baseRow2 (b1 : Byte) (n16 : Word) : List Instr :=
  [.jr_nz_e8 b1, .ld_hl_n16 n16, .ld_mhli_a, .inc_hl,
   .inc_h, .dec_h, .ld_h_n8 b1, .daa,
   .jr_z_e8 b1, .add_hl_hl, .ld_a_mhli, .dec_hl,
   .inc_l, .dec_l, .ld_l_n8 b1, .cpl]

/-- Row 3x of the base table (R142). -/
def baseRow3 (b1 : Byte) (n16 : Word) : List Instr :=
  [.jr_nc_e8 b1, .ld_sp_n16 n16, .ld_mhld_a, .inc_sp,
   .inc_mhl, .dec_mhl, .ld_mhl_n8 b1, .scf,
   .jr_c_e8 b1, .add_hl_sp, .ld_a_mhld, .dec_sp,
   .inc_a, .dec_a, .ld_a_n8 b1, .ccf]

/-- Row 4x of the base table (R142). -/
def baseRow4 (_b1 : Byte) (_n16 : Word) : List Instr :=
  [.ld_b_b, .ld_b_c, .ld_b_d, .ld_b_e,
   .ld_b_h, .ld_b_l, .ld_b_mhl, .ld_b_a,
   .ld_c_b, .ld_c_c, .ld_c_d, .ld_c_e,
   .ld_c_h, .ld_c_l, .ld_c_mhl, .ld_c_a]

/-- Row 5x of the base table (R142). -/
def baseRow5 (_b1 : Byte) (_n16 : Word) : List Instr :=
  [.ld_d_b, .ld_d_c, .ld_d_d, .ld_d_e,
   .ld_d_h, .ld_d_l, .ld_d_mhl, .ld_d_a,
   .ld_e_b, .ld_e_c, .ld_e_d, .ld_e_e,
   .ld_e_h, .ld_e_l, .ld_e_mhl, .ld_e_a]

/-- Row 6x of the base table (R142). -/
def baseRow6 (_b1 : Byte) (_n16 : Word) : List Instr :=
  [.ld_h_b, .ld_h_c, .ld_h_d, .ld_h_e,
   .ld_h_h, .ld_h_l, .ld_h_mhl, .ld_h_a,
   .ld_l_b, .ld_l_c, .ld_l_d, .ld_l_e,
   .ld_l_h, .ld_l_l, .ld_l_mhl, .ld_l_a]

/-- Row 7x of the base table (R142). -/
def baseRow7 (_b1 : Byte) (_n16 : Word) : List Instr :=
  [.ld_mhl_b, .ld_mhl_c, .ld_mhl_d, .ld_mhl_e,
   .ld_mhl_h, .ld_mhl_l, .halt, .ld_mhl_a,
   .ld_a_b, .ld_a_c, .ld_a_d, .ld_a_e,
   .ld_a_h, .ld_a_l, .ld_a_mhl, .ld_a_a]

/-- Row 8x of the base table (R142). -/
def baseRow8 (_b1 : Byte) (_n16 : Word) : List Instr :=
  [.add_a_b, .add_a_c, .add_a_d, .add_a_e,
   .add_a_h, .add_a_l, .add_a_mhl, .add_a_a,
   .adc_a_b, .adc_a_c, .adc_a_d, .adc_a_e,
   .adc_a_h, .adc_a_l, .adc_a_mhl, .adc_a_a]

/-- Row 9x of the base table (R142). -/
def baseRow9 (_b1 : Byte) (_n16 : Word) : List Instr :=
  [.sub_b, .sub_c, .sub_d, .sub_e,
   .sub_h, .sub_l, .sub_mhl, .sub_a,
   .sbc_a_b, .sbc_a_c, .sbc_a_d, .sbc_a_e,
   .sbc_a_h, .sbc_a_l, .sbc_a_mhl, .sbc_a_a]

/-- Row Ax of the base table (R142). -/
def baseRowA (_b1 : Byte) (_n16 : Word) : List Instr :=
  [.and_b, .and_c, .and_d, .and_e,
   .and_h, .and_l, .and_mhl, .and_a,
   .xor_b, .xor_c, .xor_d, .xor_e,
   .xor_h, .xor_l, .xor_mhl, .xor_a]

/-- Row Bx of the base table (R142). -/
def baseRowB (_b1 : Byte) (_n16 : Word) : List Instr :=
  [.or_b, .or_c, .or_d, .or_e,
   .or_h, .or_l, .or_mhl, .or_a,
   .cp_b, .cp_c, .cp_d, .cp_e,
   .cp_h, .cp_l, .cp_mhl, .cp_a]

/-- Row Cx of the base table (R142). -/
def baseRowC (b1 : Byte) (n16 : Word) : List Instr :=
  [.ret_nz, .pop_bc, .jp_nz_a16 n16, .jp_a16 n16,
   .call_nz_a16 n16, .push_bc, .add_a_n8 b1, .rst_00h,
   .ret_z, .ret, .jp_z_a16 n16, .prefix_cb b1,
   .call_z_a16 n16, .call_a16 n16, .adc_a_n8 b1, .rst_08h]

/-- Row Dx of the base table (R142). -/
def baseRowD (b1 : Byte) (n16 : Word) : List Instr :=
  [.ret_nc, .pop_de, .jp_nc_a16 n16, .illegal_d3,
   .call_nc_a16 n16, .push_de, .sub_n8 b1, .rst_10h,
   .ret_c, .reti, .jp_c_a16 n16, .illegal_db,
   .call_c_a16 n16, .illegal_dd, .sbc_a_n8 b1, .rst_18h]

/-- Row Ex of the base table (R142). -/
def baseRowE (b1 : Byte) (n16 : Word) : List Instr :=
  [.ldh_ma8_a b1, .pop_hl, .ld_mc_a, .illegal_e3,
   .illegal_e4, .push_hl, .and_n8 b1, .rst_20h,
   .add_sp_e8 b1, .jp_hl, .ld_ma16_a n16, .illegal_eb,
   .illegal_ec, .illegal_ed, .xor_n8 b1, .rst_28h]

/-- Row Fx of the base table (R142). -/
def baseRowF (b1 : Byte) (n16 : Word) : List Instr :=
  [.ldh_a_ma8 b1, .pop_af, .ld_a_mc, .di,
   .illegal_f4, .push_af, .or_n8 b1, .rst_30h,
   .ld_hl_spe8 b1, .ld_sp_hl, .ld_a_ma16 n16, .ei,
   .illegal_fc, .illegal_fd, .cp_n8 b1, .rst_38h]

/-- The rows of BASE[0..255] (R137, R142) by the high nibble of the opcode, the operands being `b1` and `n16 = b2:b1`
(R136). -/
def baseRow (row : Nat) (b1 : Byte) (n16 : Word) : List Instr :=
  match row with
  | 0 => baseRow0 b1 n16
  | 1 => baseRow1 b1 n16
  | 2 => baseRow2 b1 n16
  | 3 => baseRow3 b1 n16
  | 4 => baseRow4 b1 n16
  | 5 => baseRow5 b1 n16
  | 6 => baseRow6 b1 n16
  | 7 => baseRow7 b1 n16
  | 8 => baseRow8 b1 n16
  | 9 => baseRow9 b1 n16
  | 10 => baseRowA b1 n16
  | 11 => baseRowB b1 n16
  | 12 => baseRowC b1 n16
  | 13 => baseRowD b1 n16
  | 14 => baseRowE b1 n16
  | _ => baseRowF b1 n16

/-- Row 0x of the prefixed table (R142). -/
def cbRow0 : List Instr :=
  [.rlc_b, .rlc_c, .rlc_d, .rlc_e, .rlc_h, .rlc_l, .rlc_mhl, .rlc_a,
   .rrc_b, .rrc_c, .rrc_d, .rrc_e, .rrc_h, .rrc_l, .rrc_mhl, .rrc_a]

/-- Row 1x of the prefixed table (R142). -/
def cbRow1 : List Instr :=
  [.rl_b, .rl_c, .rl_d, .rl_e, .rl_h, .rl_l, .rl_mhl, .rl_a,
   .rr_b, .rr_c, .rr_d, .rr_e, .rr_h, .rr_l, .rr_mhl, .rr_a]

/-- Row 2x of the prefixed table (R142). -/
def cbRow2 : List Instr :=
  [.sla_b, .sla_c, .sla_d, .sla_e, .sla_h, .sla_l, .sla_mhl, .sla_a,
   .sra_b, .sra_c, .sra_d, .sra_e, .sra_h, .sra_l, .sra_mhl, .sra_a]

/-- Row 3x of the prefixed table (R142). -/
def cbRow3 : List Instr :=
  [.swap_b, .swap_c, .swap_d, .swap_e, .swap_h, .swap_l, .swap_mhl, .swap_a,
   .srl_b, .srl_c, .srl_d, .srl_e, .srl_h, .srl_l, .srl_mhl, .srl_a]

/-- Row 4x of the prefixed table (R142). -/
def cbRow4 : List Instr :=
  [.bit_0_b, .bit_0_c, .bit_0_d, .bit_0_e, .bit_0_h, .bit_0_l, .bit_0_mhl, .bit_0_a,
   .bit_1_b, .bit_1_c, .bit_1_d, .bit_1_e, .bit_1_h, .bit_1_l, .bit_1_mhl, .bit_1_a]

/-- Row 5x of the prefixed table (R142). -/
def cbRow5 : List Instr :=
  [.bit_2_b, .bit_2_c, .bit_2_d, .bit_2_e, .bit_2_h, .bit_2_l, .bit_2_mhl, .bit_2_a,
   .bit_3_b, .bit_3_c, .bit_3_d, .bit_3_e, .bit_3_h, .bit_3_l, .bit_3_mhl, .bit_3_a]

/-- Row 6x of the prefixed table (R142). -/
def cbRow6 : List Instr :=
  [.bit_4_b, .bit_4_c, .bit_4_d, .bit_4_e, .bit_4_h, .bit_4_l, .bit_4_mhl, .bit_4_a,
   .bit_5_b, .bit_5_c, .bit_5_d, .bit_5_e, .bit_5_h, .bit_5_l, .bit_5_mhl, .bit_5_a]

/-- Row 7x of the prefixed table (R142). -/
def cbRow7 : List Instr :=
  [.bit_6_b, .bit_6_c, .bit_6_d, .bit_6_e, .bit_6_h, .bit_6_l, .bit_6_mhl, .bit_6_a,
   .bit_7_b, .bit_7_c, .bit_7_d, .bit_7_e, .bit_7_h, .bit_7_l, .bit_7_mhl, .bit_7_a]

/-- Row 8x of the prefixed table (R142). -/
def cbRow8 : List Instr :=
  [.res_0_b, .res_0_c, .res_0_d, .res_0_e, .res_0_h, .res_0_l, .res_0_mhl, .res_0_a,
   .res_1_b, .res_1_c, .res_1_d, .res_1_e, .res_1_h, .res_1_l, .res_1_mhl, .res_1_a]

/-- Row 9x of the prefixed table (R142). -/
def cbRow9 : List Instr :=
  [.res_2_b, .res_2_c, .res_2_d, .res_2_e, .res_2_h, .res_2_l, .res_2_mhl, .res_2_a,
   .res_3_b, .res_3_c, .res_3_d, .res_3_e, .res_3_h, .res_3_l, .res_3_mhl, .res_3_a]

/-- Row Ax of the prefixed table (R142). -/
def cbRowA : List Instr :=
  [.res_4_b, .res_4_c, .res_4_d, .res_4_e, .res_4_h, .res_4_l, .res_4_mhl, .res_4_a,
   .res_5_b, .res_5_c, .res_5_d, .res_5_e, .res_5_h, .res_5_l, .res_5_mhl, .res_5_a]

/-- Row Bx of the prefixed table (R142). -/
def cbRowB : List Instr :=
  [.res_6_b, .res_6_c, .res_6_d, .res_6_e, .res_6_h, .res_6_l, .res_6_mhl, .res_6_a,
   .res_7_b, .res_7_c, .res_7_d, .res_7_e, .res_7_h, .res_7_l, .res_7_mhl, .res_7_a]

/-- Row Cx of the prefixed table (R142). -/
def cbRowC : List Instr :=
  [.set_0_b, .set_0_c, .set_0_d, .set_0_e, .set_0_h, .set_0_l, .set_0_mhl, .set_0_a,
   .set_1_b, .set_1_c, .set_1_d, .set_1_e, .set_1_h, .set_1_l, .set_1_mhl, .set_1_a]

/-- Row Dx of the prefixed table (R142). -/
def cbRowD : List Instr :=
  [.set_2_b, .set_2_c, .set_2_d, .set_2_e, .set_2_h, .set_2_l, .set_2_mhl, .set_2_a,
   .set_3_b, .set_3_c, .set_3_d, .set_3_e, .set_3_h, .set_3_l, .set_3_mhl, .set_3_a]

/-- Row Ex of the prefixed table (R142). -/
def cbRowE : List Instr :=
  [.set_4_b, .set_4_c, .set_4_d, .set_4_e, .set_4_h, .set_4_l, .set_4_mhl, .set_4_a,
   .set_5_b, .set_5_c, .set_5_d, .set_5_e, .set_5_h, .set_5_l, .set_5_mhl, .set_5_a]

/-- Row Fx of the prefixed table (R142). -/
def cbRowF : List Instr :=
  [.set_6_b, .set_6_c, .set_6_d, .set_6_e, .set_6_h, .set_6_l, .set_6_mhl, .set_6_a,
   .set_7_b, .set_7_c, .set_7_d, .set_7_e, .set_7_h, .set_7_l, .set_7_mhl, .set_7_a]

/-- The rows of CB[0..255] (R138, R142) by the high nibble of the prefixed byte. -/
def cbRow (row : Nat) : List Instr :=
  match row with
  | 0 => cbRow0
  | 1 => cbRow1
  | 2 => cbRow2
  | 3 => cbRow3
  | 4 => cbRow4
  | 5 => cbRow5
  | 6 => cbRow6
  | 7 => cbRow7
  | 8 => cbRow8
  | 9 => cbRow9
  | 10 => cbRowA
  | 11 => cbRowB
  | 12 => cbRowC
  | 13 => cbRowD
  | 14 => cbRowE
  | _ => cbRowF

/-- BASE[op] with its operand bytes (R137). Every row has 16 entries, so the fallback is never read (Laws/Decode.lean). -/
def baseEntry (op b1 b2 : Byte) : Instr := (baseRow (op.toNat / 16) b1 (wordOf b2 b1)).getD (op.toNat % 16) .nop

/-- CB[b] (R138). Every row has 16 entries, so the fallback is never read (Laws/Decode.lean). -/
def cbEntry (b : Byte) : Instr := (cbRow (b.toNat / 16)).getD (b.toNat % 16) .nop

/-- `decode(b0, b1)` (R143): CB[b1] after the prefix, BASE[b0] otherwise. -/
def decodeOp (op b1 b2 : Byte) : Instr :=
  if op = 0xCB then cbEntry b1 else baseEntry op b1 b2

/-- Why a byte sequence holds no whole instruction. Every opcode is assigned an entry (R137), so only missing bytes
are refused. -/
inductive DecodeError where
  /-- There is no byte to decode. -/
  | noBytes
  /-- The opcode's entry has more operand bytes than follow it. DESIGN CHOICE (log entry 25): no rule says what a list
  shorter than its instruction decodes to; the CPU's fetch and the disassembler always read the bytes they need. -/
  | truncated (op : Byte)
  deriving DecidableEq, Repr

/-- The instruction at the head of a byte sequence, with the bytes after it. -/
def decode : List Byte → Except DecodeError (Instr × List Byte)
  | [] => .error .noBytes
  | op :: rest =>
    match skip op, rest with
    | 0, t => .ok (decodeOp op 0 0, t)
    | 1, b1 :: t => .ok (decodeOp op b1 0, t)
    | 2, b1 :: b2 :: t => .ok (decodeOp op b1 b2, t)
    | _, _ => .error (.truncated op)

/-- The bytes of an instruction, first byte first (the `encoding` column of spec/opcode_table.json; R130, R136). -/
def encode : Instr → List Byte
  | .nop => [0x00]
  | .ld_bc_n16 n => [0x01, loByte n, hiByte n]
  | .ld_mbc_a => [0x02]
  | .inc_bc => [0x03]
  | .inc_b => [0x04]
  | .dec_b => [0x05]
  | .ld_b_n8 n => [0x06, n]
  | .rlca => [0x07]
  | .ld_ma16_sp n => [0x08, loByte n, hiByte n]
  | .add_hl_bc => [0x09]
  | .ld_a_mbc => [0x0A]
  | .dec_bc => [0x0B]
  | .inc_c => [0x0C]
  | .dec_c => [0x0D]
  | .ld_c_n8 n => [0x0E, n]
  | .rrca => [0x0F]
  | .stop_n8 n => [0x10, n]
  | .ld_de_n16 n => [0x11, loByte n, hiByte n]
  | .ld_mde_a => [0x12]
  | .inc_de => [0x13]
  | .inc_d => [0x14]
  | .dec_d => [0x15]
  | .ld_d_n8 n => [0x16, n]
  | .rla => [0x17]
  | .jr_e8 e => [0x18, e]
  | .add_hl_de => [0x19]
  | .ld_a_mde => [0x1A]
  | .dec_de => [0x1B]
  | .inc_e => [0x1C]
  | .dec_e => [0x1D]
  | .ld_e_n8 n => [0x1E, n]
  | .rra => [0x1F]
  | .jr_nz_e8 e => [0x20, e]
  | .ld_hl_n16 n => [0x21, loByte n, hiByte n]
  | .ld_mhli_a => [0x22]
  | .inc_hl => [0x23]
  | .inc_h => [0x24]
  | .dec_h => [0x25]
  | .ld_h_n8 n => [0x26, n]
  | .daa => [0x27]
  | .jr_z_e8 e => [0x28, e]
  | .add_hl_hl => [0x29]
  | .ld_a_mhli => [0x2A]
  | .dec_hl => [0x2B]
  | .inc_l => [0x2C]
  | .dec_l => [0x2D]
  | .ld_l_n8 n => [0x2E, n]
  | .cpl => [0x2F]
  | .jr_nc_e8 e => [0x30, e]
  | .ld_sp_n16 n => [0x31, loByte n, hiByte n]
  | .ld_mhld_a => [0x32]
  | .inc_sp => [0x33]
  | .inc_mhl => [0x34]
  | .dec_mhl => [0x35]
  | .ld_mhl_n8 n => [0x36, n]
  | .scf => [0x37]
  | .jr_c_e8 e => [0x38, e]
  | .add_hl_sp => [0x39]
  | .ld_a_mhld => [0x3A]
  | .dec_sp => [0x3B]
  | .inc_a => [0x3C]
  | .dec_a => [0x3D]
  | .ld_a_n8 n => [0x3E, n]
  | .ccf => [0x3F]
  | .ld_b_b => [0x40]
  | .ld_b_c => [0x41]
  | .ld_b_d => [0x42]
  | .ld_b_e => [0x43]
  | .ld_b_h => [0x44]
  | .ld_b_l => [0x45]
  | .ld_b_mhl => [0x46]
  | .ld_b_a => [0x47]
  | .ld_c_b => [0x48]
  | .ld_c_c => [0x49]
  | .ld_c_d => [0x4A]
  | .ld_c_e => [0x4B]
  | .ld_c_h => [0x4C]
  | .ld_c_l => [0x4D]
  | .ld_c_mhl => [0x4E]
  | .ld_c_a => [0x4F]
  | .ld_d_b => [0x50]
  | .ld_d_c => [0x51]
  | .ld_d_d => [0x52]
  | .ld_d_e => [0x53]
  | .ld_d_h => [0x54]
  | .ld_d_l => [0x55]
  | .ld_d_mhl => [0x56]
  | .ld_d_a => [0x57]
  | .ld_e_b => [0x58]
  | .ld_e_c => [0x59]
  | .ld_e_d => [0x5A]
  | .ld_e_e => [0x5B]
  | .ld_e_h => [0x5C]
  | .ld_e_l => [0x5D]
  | .ld_e_mhl => [0x5E]
  | .ld_e_a => [0x5F]
  | .ld_h_b => [0x60]
  | .ld_h_c => [0x61]
  | .ld_h_d => [0x62]
  | .ld_h_e => [0x63]
  | .ld_h_h => [0x64]
  | .ld_h_l => [0x65]
  | .ld_h_mhl => [0x66]
  | .ld_h_a => [0x67]
  | .ld_l_b => [0x68]
  | .ld_l_c => [0x69]
  | .ld_l_d => [0x6A]
  | .ld_l_e => [0x6B]
  | .ld_l_h => [0x6C]
  | .ld_l_l => [0x6D]
  | .ld_l_mhl => [0x6E]
  | .ld_l_a => [0x6F]
  | .ld_mhl_b => [0x70]
  | .ld_mhl_c => [0x71]
  | .ld_mhl_d => [0x72]
  | .ld_mhl_e => [0x73]
  | .ld_mhl_h => [0x74]
  | .ld_mhl_l => [0x75]
  | .halt => [0x76]
  | .ld_mhl_a => [0x77]
  | .ld_a_b => [0x78]
  | .ld_a_c => [0x79]
  | .ld_a_d => [0x7A]
  | .ld_a_e => [0x7B]
  | .ld_a_h => [0x7C]
  | .ld_a_l => [0x7D]
  | .ld_a_mhl => [0x7E]
  | .ld_a_a => [0x7F]
  | .add_a_b => [0x80]
  | .add_a_c => [0x81]
  | .add_a_d => [0x82]
  | .add_a_e => [0x83]
  | .add_a_h => [0x84]
  | .add_a_l => [0x85]
  | .add_a_mhl => [0x86]
  | .add_a_a => [0x87]
  | .adc_a_b => [0x88]
  | .adc_a_c => [0x89]
  | .adc_a_d => [0x8A]
  | .adc_a_e => [0x8B]
  | .adc_a_h => [0x8C]
  | .adc_a_l => [0x8D]
  | .adc_a_mhl => [0x8E]
  | .adc_a_a => [0x8F]
  | .sub_b => [0x90]
  | .sub_c => [0x91]
  | .sub_d => [0x92]
  | .sub_e => [0x93]
  | .sub_h => [0x94]
  | .sub_l => [0x95]
  | .sub_mhl => [0x96]
  | .sub_a => [0x97]
  | .sbc_a_b => [0x98]
  | .sbc_a_c => [0x99]
  | .sbc_a_d => [0x9A]
  | .sbc_a_e => [0x9B]
  | .sbc_a_h => [0x9C]
  | .sbc_a_l => [0x9D]
  | .sbc_a_mhl => [0x9E]
  | .sbc_a_a => [0x9F]
  | .and_b => [0xA0]
  | .and_c => [0xA1]
  | .and_d => [0xA2]
  | .and_e => [0xA3]
  | .and_h => [0xA4]
  | .and_l => [0xA5]
  | .and_mhl => [0xA6]
  | .and_a => [0xA7]
  | .xor_b => [0xA8]
  | .xor_c => [0xA9]
  | .xor_d => [0xAA]
  | .xor_e => [0xAB]
  | .xor_h => [0xAC]
  | .xor_l => [0xAD]
  | .xor_mhl => [0xAE]
  | .xor_a => [0xAF]
  | .or_b => [0xB0]
  | .or_c => [0xB1]
  | .or_d => [0xB2]
  | .or_e => [0xB3]
  | .or_h => [0xB4]
  | .or_l => [0xB5]
  | .or_mhl => [0xB6]
  | .or_a => [0xB7]
  | .cp_b => [0xB8]
  | .cp_c => [0xB9]
  | .cp_d => [0xBA]
  | .cp_e => [0xBB]
  | .cp_h => [0xBC]
  | .cp_l => [0xBD]
  | .cp_mhl => [0xBE]
  | .cp_a => [0xBF]
  | .ret_nz => [0xC0]
  | .pop_bc => [0xC1]
  | .jp_nz_a16 n => [0xC2, loByte n, hiByte n]
  | .jp_a16 n => [0xC3, loByte n, hiByte n]
  | .call_nz_a16 n => [0xC4, loByte n, hiByte n]
  | .push_bc => [0xC5]
  | .add_a_n8 n => [0xC6, n]
  | .rst_00h => [0xC7]
  | .ret_z => [0xC8]
  | .ret => [0xC9]
  | .jp_z_a16 n => [0xCA, loByte n, hiByte n]
  | .prefix_cb b => [0xCB, b]
  | .call_z_a16 n => [0xCC, loByte n, hiByte n]
  | .call_a16 n => [0xCD, loByte n, hiByte n]
  | .adc_a_n8 n => [0xCE, n]
  | .rst_08h => [0xCF]
  | .ret_nc => [0xD0]
  | .pop_de => [0xD1]
  | .jp_nc_a16 n => [0xD2, loByte n, hiByte n]
  | .illegal_d3 => [0xD3]
  | .call_nc_a16 n => [0xD4, loByte n, hiByte n]
  | .push_de => [0xD5]
  | .sub_n8 n => [0xD6, n]
  | .rst_10h => [0xD7]
  | .ret_c => [0xD8]
  | .reti => [0xD9]
  | .jp_c_a16 n => [0xDA, loByte n, hiByte n]
  | .illegal_db => [0xDB]
  | .call_c_a16 n => [0xDC, loByte n, hiByte n]
  | .illegal_dd => [0xDD]
  | .sbc_a_n8 n => [0xDE, n]
  | .rst_18h => [0xDF]
  | .ldh_ma8_a n => [0xE0, n]
  | .pop_hl => [0xE1]
  | .ld_mc_a => [0xE2]
  | .illegal_e3 => [0xE3]
  | .illegal_e4 => [0xE4]
  | .push_hl => [0xE5]
  | .and_n8 n => [0xE6, n]
  | .rst_20h => [0xE7]
  | .add_sp_e8 e => [0xE8, e]
  | .jp_hl => [0xE9]
  | .ld_ma16_a n => [0xEA, loByte n, hiByte n]
  | .illegal_eb => [0xEB]
  | .illegal_ec => [0xEC]
  | .illegal_ed => [0xED]
  | .xor_n8 n => [0xEE, n]
  | .rst_28h => [0xEF]
  | .ldh_a_ma8 n => [0xF0, n]
  | .pop_af => [0xF1]
  | .ld_a_mc => [0xF2]
  | .di => [0xF3]
  | .illegal_f4 => [0xF4]
  | .push_af => [0xF5]
  | .or_n8 n => [0xF6, n]
  | .rst_30h => [0xF7]
  | .ld_hl_spe8 e => [0xF8, e]
  | .ld_sp_hl => [0xF9]
  | .ld_a_ma16 n => [0xFA, loByte n, hiByte n]
  | .ei => [0xFB]
  | .illegal_fc => [0xFC]
  | .illegal_fd => [0xFD]
  | .cp_n8 n => [0xFE, n]
  | .rst_38h => [0xFF]
  | .rlc_b => [0xCB, 0x00]
  | .rlc_c => [0xCB, 0x01]
  | .rlc_d => [0xCB, 0x02]
  | .rlc_e => [0xCB, 0x03]
  | .rlc_h => [0xCB, 0x04]
  | .rlc_l => [0xCB, 0x05]
  | .rlc_mhl => [0xCB, 0x06]
  | .rlc_a => [0xCB, 0x07]
  | .rrc_b => [0xCB, 0x08]
  | .rrc_c => [0xCB, 0x09]
  | .rrc_d => [0xCB, 0x0A]
  | .rrc_e => [0xCB, 0x0B]
  | .rrc_h => [0xCB, 0x0C]
  | .rrc_l => [0xCB, 0x0D]
  | .rrc_mhl => [0xCB, 0x0E]
  | .rrc_a => [0xCB, 0x0F]
  | .rl_b => [0xCB, 0x10]
  | .rl_c => [0xCB, 0x11]
  | .rl_d => [0xCB, 0x12]
  | .rl_e => [0xCB, 0x13]
  | .rl_h => [0xCB, 0x14]
  | .rl_l => [0xCB, 0x15]
  | .rl_mhl => [0xCB, 0x16]
  | .rl_a => [0xCB, 0x17]
  | .rr_b => [0xCB, 0x18]
  | .rr_c => [0xCB, 0x19]
  | .rr_d => [0xCB, 0x1A]
  | .rr_e => [0xCB, 0x1B]
  | .rr_h => [0xCB, 0x1C]
  | .rr_l => [0xCB, 0x1D]
  | .rr_mhl => [0xCB, 0x1E]
  | .rr_a => [0xCB, 0x1F]
  | .sla_b => [0xCB, 0x20]
  | .sla_c => [0xCB, 0x21]
  | .sla_d => [0xCB, 0x22]
  | .sla_e => [0xCB, 0x23]
  | .sla_h => [0xCB, 0x24]
  | .sla_l => [0xCB, 0x25]
  | .sla_mhl => [0xCB, 0x26]
  | .sla_a => [0xCB, 0x27]
  | .sra_b => [0xCB, 0x28]
  | .sra_c => [0xCB, 0x29]
  | .sra_d => [0xCB, 0x2A]
  | .sra_e => [0xCB, 0x2B]
  | .sra_h => [0xCB, 0x2C]
  | .sra_l => [0xCB, 0x2D]
  | .sra_mhl => [0xCB, 0x2E]
  | .sra_a => [0xCB, 0x2F]
  | .swap_b => [0xCB, 0x30]
  | .swap_c => [0xCB, 0x31]
  | .swap_d => [0xCB, 0x32]
  | .swap_e => [0xCB, 0x33]
  | .swap_h => [0xCB, 0x34]
  | .swap_l => [0xCB, 0x35]
  | .swap_mhl => [0xCB, 0x36]
  | .swap_a => [0xCB, 0x37]
  | .srl_b => [0xCB, 0x38]
  | .srl_c => [0xCB, 0x39]
  | .srl_d => [0xCB, 0x3A]
  | .srl_e => [0xCB, 0x3B]
  | .srl_h => [0xCB, 0x3C]
  | .srl_l => [0xCB, 0x3D]
  | .srl_mhl => [0xCB, 0x3E]
  | .srl_a => [0xCB, 0x3F]
  | .bit_0_b => [0xCB, 0x40]
  | .bit_0_c => [0xCB, 0x41]
  | .bit_0_d => [0xCB, 0x42]
  | .bit_0_e => [0xCB, 0x43]
  | .bit_0_h => [0xCB, 0x44]
  | .bit_0_l => [0xCB, 0x45]
  | .bit_0_mhl => [0xCB, 0x46]
  | .bit_0_a => [0xCB, 0x47]
  | .bit_1_b => [0xCB, 0x48]
  | .bit_1_c => [0xCB, 0x49]
  | .bit_1_d => [0xCB, 0x4A]
  | .bit_1_e => [0xCB, 0x4B]
  | .bit_1_h => [0xCB, 0x4C]
  | .bit_1_l => [0xCB, 0x4D]
  | .bit_1_mhl => [0xCB, 0x4E]
  | .bit_1_a => [0xCB, 0x4F]
  | .bit_2_b => [0xCB, 0x50]
  | .bit_2_c => [0xCB, 0x51]
  | .bit_2_d => [0xCB, 0x52]
  | .bit_2_e => [0xCB, 0x53]
  | .bit_2_h => [0xCB, 0x54]
  | .bit_2_l => [0xCB, 0x55]
  | .bit_2_mhl => [0xCB, 0x56]
  | .bit_2_a => [0xCB, 0x57]
  | .bit_3_b => [0xCB, 0x58]
  | .bit_3_c => [0xCB, 0x59]
  | .bit_3_d => [0xCB, 0x5A]
  | .bit_3_e => [0xCB, 0x5B]
  | .bit_3_h => [0xCB, 0x5C]
  | .bit_3_l => [0xCB, 0x5D]
  | .bit_3_mhl => [0xCB, 0x5E]
  | .bit_3_a => [0xCB, 0x5F]
  | .bit_4_b => [0xCB, 0x60]
  | .bit_4_c => [0xCB, 0x61]
  | .bit_4_d => [0xCB, 0x62]
  | .bit_4_e => [0xCB, 0x63]
  | .bit_4_h => [0xCB, 0x64]
  | .bit_4_l => [0xCB, 0x65]
  | .bit_4_mhl => [0xCB, 0x66]
  | .bit_4_a => [0xCB, 0x67]
  | .bit_5_b => [0xCB, 0x68]
  | .bit_5_c => [0xCB, 0x69]
  | .bit_5_d => [0xCB, 0x6A]
  | .bit_5_e => [0xCB, 0x6B]
  | .bit_5_h => [0xCB, 0x6C]
  | .bit_5_l => [0xCB, 0x6D]
  | .bit_5_mhl => [0xCB, 0x6E]
  | .bit_5_a => [0xCB, 0x6F]
  | .bit_6_b => [0xCB, 0x70]
  | .bit_6_c => [0xCB, 0x71]
  | .bit_6_d => [0xCB, 0x72]
  | .bit_6_e => [0xCB, 0x73]
  | .bit_6_h => [0xCB, 0x74]
  | .bit_6_l => [0xCB, 0x75]
  | .bit_6_mhl => [0xCB, 0x76]
  | .bit_6_a => [0xCB, 0x77]
  | .bit_7_b => [0xCB, 0x78]
  | .bit_7_c => [0xCB, 0x79]
  | .bit_7_d => [0xCB, 0x7A]
  | .bit_7_e => [0xCB, 0x7B]
  | .bit_7_h => [0xCB, 0x7C]
  | .bit_7_l => [0xCB, 0x7D]
  | .bit_7_mhl => [0xCB, 0x7E]
  | .bit_7_a => [0xCB, 0x7F]
  | .res_0_b => [0xCB, 0x80]
  | .res_0_c => [0xCB, 0x81]
  | .res_0_d => [0xCB, 0x82]
  | .res_0_e => [0xCB, 0x83]
  | .res_0_h => [0xCB, 0x84]
  | .res_0_l => [0xCB, 0x85]
  | .res_0_mhl => [0xCB, 0x86]
  | .res_0_a => [0xCB, 0x87]
  | .res_1_b => [0xCB, 0x88]
  | .res_1_c => [0xCB, 0x89]
  | .res_1_d => [0xCB, 0x8A]
  | .res_1_e => [0xCB, 0x8B]
  | .res_1_h => [0xCB, 0x8C]
  | .res_1_l => [0xCB, 0x8D]
  | .res_1_mhl => [0xCB, 0x8E]
  | .res_1_a => [0xCB, 0x8F]
  | .res_2_b => [0xCB, 0x90]
  | .res_2_c => [0xCB, 0x91]
  | .res_2_d => [0xCB, 0x92]
  | .res_2_e => [0xCB, 0x93]
  | .res_2_h => [0xCB, 0x94]
  | .res_2_l => [0xCB, 0x95]
  | .res_2_mhl => [0xCB, 0x96]
  | .res_2_a => [0xCB, 0x97]
  | .res_3_b => [0xCB, 0x98]
  | .res_3_c => [0xCB, 0x99]
  | .res_3_d => [0xCB, 0x9A]
  | .res_3_e => [0xCB, 0x9B]
  | .res_3_h => [0xCB, 0x9C]
  | .res_3_l => [0xCB, 0x9D]
  | .res_3_mhl => [0xCB, 0x9E]
  | .res_3_a => [0xCB, 0x9F]
  | .res_4_b => [0xCB, 0xA0]
  | .res_4_c => [0xCB, 0xA1]
  | .res_4_d => [0xCB, 0xA2]
  | .res_4_e => [0xCB, 0xA3]
  | .res_4_h => [0xCB, 0xA4]
  | .res_4_l => [0xCB, 0xA5]
  | .res_4_mhl => [0xCB, 0xA6]
  | .res_4_a => [0xCB, 0xA7]
  | .res_5_b => [0xCB, 0xA8]
  | .res_5_c => [0xCB, 0xA9]
  | .res_5_d => [0xCB, 0xAA]
  | .res_5_e => [0xCB, 0xAB]
  | .res_5_h => [0xCB, 0xAC]
  | .res_5_l => [0xCB, 0xAD]
  | .res_5_mhl => [0xCB, 0xAE]
  | .res_5_a => [0xCB, 0xAF]
  | .res_6_b => [0xCB, 0xB0]
  | .res_6_c => [0xCB, 0xB1]
  | .res_6_d => [0xCB, 0xB2]
  | .res_6_e => [0xCB, 0xB3]
  | .res_6_h => [0xCB, 0xB4]
  | .res_6_l => [0xCB, 0xB5]
  | .res_6_mhl => [0xCB, 0xB6]
  | .res_6_a => [0xCB, 0xB7]
  | .res_7_b => [0xCB, 0xB8]
  | .res_7_c => [0xCB, 0xB9]
  | .res_7_d => [0xCB, 0xBA]
  | .res_7_e => [0xCB, 0xBB]
  | .res_7_h => [0xCB, 0xBC]
  | .res_7_l => [0xCB, 0xBD]
  | .res_7_mhl => [0xCB, 0xBE]
  | .res_7_a => [0xCB, 0xBF]
  | .set_0_b => [0xCB, 0xC0]
  | .set_0_c => [0xCB, 0xC1]
  | .set_0_d => [0xCB, 0xC2]
  | .set_0_e => [0xCB, 0xC3]
  | .set_0_h => [0xCB, 0xC4]
  | .set_0_l => [0xCB, 0xC5]
  | .set_0_mhl => [0xCB, 0xC6]
  | .set_0_a => [0xCB, 0xC7]
  | .set_1_b => [0xCB, 0xC8]
  | .set_1_c => [0xCB, 0xC9]
  | .set_1_d => [0xCB, 0xCA]
  | .set_1_e => [0xCB, 0xCB]
  | .set_1_h => [0xCB, 0xCC]
  | .set_1_l => [0xCB, 0xCD]
  | .set_1_mhl => [0xCB, 0xCE]
  | .set_1_a => [0xCB, 0xCF]
  | .set_2_b => [0xCB, 0xD0]
  | .set_2_c => [0xCB, 0xD1]
  | .set_2_d => [0xCB, 0xD2]
  | .set_2_e => [0xCB, 0xD3]
  | .set_2_h => [0xCB, 0xD4]
  | .set_2_l => [0xCB, 0xD5]
  | .set_2_mhl => [0xCB, 0xD6]
  | .set_2_a => [0xCB, 0xD7]
  | .set_3_b => [0xCB, 0xD8]
  | .set_3_c => [0xCB, 0xD9]
  | .set_3_d => [0xCB, 0xDA]
  | .set_3_e => [0xCB, 0xDB]
  | .set_3_h => [0xCB, 0xDC]
  | .set_3_l => [0xCB, 0xDD]
  | .set_3_mhl => [0xCB, 0xDE]
  | .set_3_a => [0xCB, 0xDF]
  | .set_4_b => [0xCB, 0xE0]
  | .set_4_c => [0xCB, 0xE1]
  | .set_4_d => [0xCB, 0xE2]
  | .set_4_e => [0xCB, 0xE3]
  | .set_4_h => [0xCB, 0xE4]
  | .set_4_l => [0xCB, 0xE5]
  | .set_4_mhl => [0xCB, 0xE6]
  | .set_4_a => [0xCB, 0xE7]
  | .set_5_b => [0xCB, 0xE8]
  | .set_5_c => [0xCB, 0xE9]
  | .set_5_d => [0xCB, 0xEA]
  | .set_5_e => [0xCB, 0xEB]
  | .set_5_h => [0xCB, 0xEC]
  | .set_5_l => [0xCB, 0xED]
  | .set_5_mhl => [0xCB, 0xEE]
  | .set_5_a => [0xCB, 0xEF]
  | .set_6_b => [0xCB, 0xF0]
  | .set_6_c => [0xCB, 0xF1]
  | .set_6_d => [0xCB, 0xF2]
  | .set_6_e => [0xCB, 0xF3]
  | .set_6_h => [0xCB, 0xF4]
  | .set_6_l => [0xCB, 0xF5]
  | .set_6_mhl => [0xCB, 0xF6]
  | .set_6_a => [0xCB, 0xF7]
  | .set_7_b => [0xCB, 0xF8]
  | .set_7_c => [0xCB, 0xF9]
  | .set_7_d => [0xCB, 0xFA]
  | .set_7_e => [0xCB, 0xFB]
  | .set_7_h => [0xCB, 0xFC]
  | .set_7_l => [0xCB, 0xFD]
  | .set_7_mhl => [0xCB, 0xFE]
  | .set_7_a => [0xCB, 0xFF]

/-- The bytes of a table word, first byte first, followed by zeros up to the longest instruction. The table numbers a
base row's opcode as bits 7..0 with its operand bytes above, and a prefixed row as ONE 16-bit number whose high byte is
the prefix: `fixed` of RLC B is 0xCB00 (log entry 16). -/
def tableBytes (nbits w : Nat) : List Byte :=
  let v := w % 2 ^ nbits
  if nbits = 16 ∧ v / 256 = 0xCB then [0xCB, BitVec.ofNat 8 v, 0]
  else [BitVec.ofNat 8 v, BitVec.ofNat 8 (v / 256), BitVec.ofNat 8 (v / 65536)]

/-- What the decoder reads from a table word. -/
def decodeTableWord (nbits w : Nat) : Option Instr :=
  match decode (tableBytes nbits w) with
  | .ok (i, _) => some i
  | .error _ => none

end Sys2Proof
end

