-- ==== Sys2Proof/Machine/State.lean ====
section
/-! DEFINITION. The machine's state (10_state.md) as plain data, grouped by the unit that owns it; the reasons a step may
stop; and the state after reset (R36 to R38, R520). The behaviour is in the other files of this folder. -/

namespace Sys2Proof.Machine

/-- A memory: the bytes that differ from 0x00 (`Config.ramInit`), each at its address, addresses strictly rising
(`Memory.wf`). Memory.lean reads and writes it. -/
abbrev Memory := List Host.Cell

/-- The register file (R20, R23, R24). -/
structure Regs where
  a : Byte
  f : Byte
  b : Byte
  c : Byte
  d : Byte
  e : Byte
  h : Byte
  l : Byte
  sp : Word
  pc : Word
  deriving DecidableEq, Repr

/-- `run_state` (R27). Fetch, Decode and Execute are phases inside one Update. -/
inductive RunState where
  | running
  | halted
  | breakpointPaused
  | locked
  deriving DecidableEq, Repr

/-- A breakpoint record (R31, R470). `cond = none` is the absent condition, which is true; `some k` names the k-th of the
predicates the parameter BP_COND supplies (`breakpointCondition`). -/
structure Breakpoint where
  addr : Word
  cond : Option Nat
  deriving DecidableEq, Repr

/-- The cartridge mapper in use (R91). -/
inductive Mapper where
  | romOnly
  | mbc1
  deriving DecidableEq, Repr

/-- A loaded cartridge (R34, R90 to R95, R100): the image as `romLen` bytes, those that are not 0x00 being listed in `rom`;
the mapper; the cartridge RAM size S; and the content hash. -/
structure Cartridge where
  mapper : Mapper
  romLen : Nat
  rom : Memory
  ramSize : Nat
  hash : Nat
  deriving DecidableEq, Repr

/-- The MBC1 registers (R35, R96). -/
structure Mbc where
  ramEn : Bool
  bankLo : BitVec 5
  bankHi : BitVec 2
  bankMode : Bool
  deriving DecidableEq, Repr

/-- The timer (R35, R420): `div` is `div_counter`. -/
structure Timer where
  div : Word
  tima : Byte
  tma : Byte
  tac : BitVec 3
  deriving DecidableEq, Repr

/-- The PPU phases (R448). STAT bits 1..0 report them as 0, 1, 2, 3. -/
inductive PpuMode where
  | hblank
  | vblank
  | searchOam
  | drawPixels
  deriving DecidableEq, Repr

/-- A framebuffer pixel: 0 (lightest) to 3 (darkest) (R461). -/
abbrev Shade := BitVec 2

/-- A framebuffer (R35): 144 rows of 160 shades, row 0 first. -/
abbrev Frame := List (List Shade)

/-- The PPU (R35): its registers, its position, and its two framebuffers. -/
structure Ppu where
  lcdc : Byte
  statW : BitVec 4
  scy : Byte
  scx : Byte
  lyc : Byte
  dma : Byte
  bgp : Byte
  obp0 : Byte
  obp1 : Byte
  wy : Byte
  wx : Byte
  ly : Nat
  dot : Nat
  mode : PpuMode
  winLine : Nat
  statLine : Bool
  back : Frame
  front : Frame
  frames : Nat
  deriving DecidableEq, Repr

/-- An RGB triple of the host palette (R463). -/
structure Rgb where
  r : Byte
  g : Byte
  b : Byte
  deriving DecidableEq, Repr

/-- HOST_PALETTE: a triple for each shade (R5, R463). -/
structure Palette where
  shade0 : Rgb
  shade1 : Rgb
  shade2 : Rgb
  shade3 : Rgb
  deriving DecidableEq, Repr

/-- The mode of `Start` (R485). It paces the host and changes nothing in the core. -/
inductive StartMode where
  | interactive
  | headless
  deriving DecidableEq, Repr

/-- What the host interface holds between Updates (R463, R471, R485): whether the stepping thread runs, the pause flag
`host_paused`, and the palette. No instruction reads or writes it. -/
structure HostSide where
  running : Option StartMode
  paused : Bool
  palette : Palette
  deriving DecidableEq, Repr

/-- BOOT_MODE (R5, R523). `bootRom` carries its 256-byte image, so a launch in that mode without an image cannot be
written down (93_implementation_defined.md I15). -/
inductive BootMode where
  | skip
  | bootRom (image : Memory)
  deriving DecidableEq, Repr

/-- The launch's choice of the parameters of R5 that have a choice. No step changes them. -/
structure Params where
  illegalPolicy : IllegalPolicy
  stopPolicy : StopPolicy
  haltBug : Bool
  bootMode : BootMode
  mapper : MapperChoice
  oversizePolicy : OversizePolicy
  ioUnusedPolicy : IoUnusedPolicy
  vramLock : Bool
  deriving DecidableEq, Repr

/-- The whole machine between two Updates (R20 to R35). `mem` holds VRAM, WRAM, OAM, HRAM and the I/O storage at their bus
addresses (an echo address stands for its WRAM byte, R68); `cartRam` is keyed by its offset. -/
structure State where
  regs : Regs
  ime : Bool
  eiPending : Bool
  runState : RunState
  haltBug : Bool
  bpResume : Bool
  cycles : Nat
  breakpoints : List Breakpoint
  mem : Memory
  cartRam : Memory
  cart : Option Cartridge
  mbc : Mbc
  bootMapped : Bool
  ifBits : BitVec 5
  ie : Byte
  timer : Timer
  ppu : Ppu
  p1Sel : BitVec 2
  sb : Byte
  sc : Byte
  host : HostSide
  params : Params
  deriving DecidableEq, Repr

/-- The faults of a step. There is none: "The core raises no synchronous exception" and no instruction, operand, address
or stack condition "traps, faults or stops the CPU" (R400, R156). The type is empty, so no step can end in a fault. -/
inductive Fault where
  deriving DecidableEq, Repr

/-- The refusals of a step. -/
inductive Refusal where
  /-- Raised by an arm of `exec` whose instruction has no meaning in the model. No arm raises it. Safe: the model stops
  where the hardware goes on. -/
  | notModelled (mnemonic : String)
  deriving DecidableEq, Repr

/-- What a meaning and a step answer. -/
abbrev Result := Host.Outcome State Fault Refusal

/-- BP_COND (R5, R31, R470): the k-th condition of the launch, a total predicate on the state without side effect.
The spec lets it be any predicate, so it has no body here and no claim can rest on its answer (log entry 5). -/
opaque breakpointCondition : Nat → State → Bool

/-- The registers the DMG boot ROM leaves at its hand-off (R36). -/
def Regs.postBoot : Regs where
  a := 0x01
  f := 0xB0
  b := 0x00
  c := 0x13
  d := 0x00
  e := 0xD8
  h := 0x01
  l := 0x4D
  sp := 0xFFFE
  pc := 0x0100

/-- The registers in BOOT_MODE `boot_rom` (R37). -/
def Regs.zero : Regs where
  a := 0
  f := 0
  b := 0
  c := 0
  d := 0
  e := 0
  h := 0
  l := 0
  sp := 0
  pc := 0

/-- The MBC1 registers after Reset (R99). -/
def Mbc.reset : Mbc where
  ramEn := false
  bankLo := 1
  bankHi := 0
  bankMode := false

/-- The timer after Reset (R38). -/
def Timer.reset : Timer where
  div := Config.divInit
  tima := 0
  tma := 0
  tac := 0

/-- A framebuffer of shade 0 (R38). -/
def Frame.blank : Frame := List.replicate Config.fbHeight (List.replicate Config.fbWidth 0)

/-- The PPU after Reset (R38). -/
def Ppu.reset : Ppu where
  lcdc := 0x91
  statW := 0
  scy := 0
  scx := 0
  lyc := 0
  dma := 0xFF
  bgp := 0xFC
  obp0 := 0xFF
  obp1 := 0xFF
  wy := 0
  wx := 0
  ly := 0
  dot := 0
  mode := .searchOam
  winLine := 0
  statLine := false
  back := Frame.blank
  front := Frame.blank
  frames := 0

/-- HOST_PALETTE's default (R5, R463). -/
def Palette.default : Palette where
  shade0 := ⟨255, 255, 255⟩
  shade1 := ⟨170, 170, 170⟩
  shade2 := ⟨85, 85, 85⟩
  shade3 := ⟨0, 0, 0⟩

/-- The host side at construction: not running, not paused, the default palette. DESIGN CHOICE for the first two: the spec
gives no value (log entry 6). -/
def HostSide.initial : HostSide where
  running := none
  paused := false
  palette := Palette.default

/-- The defaults of R5. -/
def Params.default : Params where
  illegalPolicy := .nop
  stopPolicy := .nop
  haltBug := true
  bootMode := .skip
  mapper := .auto
  oversizePolicy := .truncate
  ioUnusedPolicy := .storage
  vramLock := false

/-- The state `Reset()` leaves (R520), given what it keeps: the parameters, the cartridge with its hash and mapper, the
breakpoint sequence and the host side. Everything else is a constant. -/
def State.resetKeeping (params : Params) (cart : Option Cartridge) (breakpoints : List Breakpoint) (host : HostSide) :
    State where
  regs :=
    match params.bootMode with
    | .skip => Regs.postBoot
    | .bootRom _ => Regs.zero
  ime := false
  eiPending := false
  runState := .running
  haltBug := false
  bpResume := false
  cycles := 0
  breakpoints := breakpoints
  mem := []
  cartRam := []
  cart := cart
  mbc := Mbc.reset
  bootMapped :=
    match params.bootMode with
    | .skip => false
    | .bootRom _ => true
  ifBits := 0b00001
  ie := 0
  timer := Timer.reset
  ppu := Ppu.reset
  p1Sel := 0
  sb := 0
  sc := 0
  host := host
  params := params

/-- Power-on (R522): construction followed by Reset, with the default parameters, no cartridge and no breakpoint. -/
def State.reset : State := State.resetKeeping Params.default none [] HostSide.initial

end Sys2Proof.Machine
end

