-- ==== Sys2Proof/Machine/Memory.lean ====
section
/-! DEFINITION. Reading and writing a `Memory`, and the canonical form that makes equal memories equal data. -/

namespace Sys2Proof.Machine

/-- The byte at a key. An unlisted key reads as RAM_INIT = 0x00 (R38, D32). -/
def Memory.read : Memory → Nat → Byte
  | [], _ => Config.ramInit
  | cell :: rest, a => if cell.1 = a then cell.2 else Memory.read rest a

/-- The memory without an entry at a key. -/
def Memory.erase : Memory → Nat → Memory
  | [], _ => []
  | cell :: rest, a => if cell.1 = a then Memory.erase rest a else cell :: Memory.erase rest a

/-- The memory with an entry put before the first greater key. -/
def Memory.insert : Memory → Nat → Byte → Memory
  | [], a, v => [(a, v)]
  | cell :: rest, a, v => if a < cell.1 then (a, v) :: cell :: rest else cell :: Memory.insert rest a v

/-- Store a byte at a key; the value an unlisted key reads as removes the entry. -/
def Memory.write (m : Memory) (a : Nat) (v : Byte) : Memory :=
  if v = Config.ramInit then Memory.erase m a else Memory.insert (Memory.erase m a) a v

/-- Every key is at least `lo`, keys rise strictly, and no entry holds what an unlisted key reads as. -/
def Memory.wfFrom : Nat → Memory → Bool
  | _, [] => true
  | lo, cell :: rest => decide (lo ≤ cell.1) && decide (cell.2 ≠ Config.ramInit) && Memory.wfFrom (cell.1 + 1) rest

/-- The canonical form. -/
def Memory.wf (m : Memory) : Bool := Memory.wfFrom 0 m

/-- A byte sequence as a memory keyed by position, from a first key on. -/
def Memory.ofBytes : Nat → List Byte → Memory
  | _, [] => []
  | a, v :: rest => if v = Config.ramInit then Memory.ofBytes (a + 1) rest else (a, v) :: Memory.ofBytes (a + 1) rest

end Sys2Proof.Machine
end

