-- ==== Sys2Proof/Machine/Operands.lean ====
section
/-! DEFINITION. The operand tables of 30_encoding.md: registers by name and by field (R132), the pairs (R21, R133, R134),
the conditions (R135, R330), bit numbers and restart targets (R136), and the x, y, z fields of a byte (R131). -/

namespace Sys2Proof

namespace Machine

/-- `reg8(i)` for i ≠ 6 (R132). -/
def Regs.get8 (r : Regs) : R8 → Byte
  | .b => r.b
  | .c => r.c
  | .d => r.d
  | .e => r.e
  | .h => r.h
  | .l => r.l
  | .a => r.a

/-- `reg8(i) <- v` for i ≠ 6 (R132). -/
def Regs.set8 (r : Regs) (i : R8) (v : Byte) : Regs :=
  match i with
  | .b => { r with b := v }
  | .c => { r with c := v }
  | .d => { r with d := v }
  | .e => { r with e := v }
  | .h => { r with h := v }
  | .l => { r with l := v }
  | .a => { r with a := v }

/-- BC = B:C (R21). -/
def Regs.bc (r : Regs) : Word := wordOf r.b r.c

/-- DE = D:E (R21). -/
def Regs.de (r : Regs) : Word := wordOf r.d r.e

/-- HL = H:L (R21). -/
def Regs.hl (r : Regs) : Word := wordOf r.h r.l

/-- AF = A:F (R21). -/
def Regs.af (r : Regs) : Word := wordOf r.a r.f

def Regs.setBc (r : Regs) (v : Word) : Regs := { r with b := hiByte v, c := loByte v }

def Regs.setDe (r : Regs) (v : Word) : Regs := { r with d := hiByte v, e := loByte v }

def Regs.setHl (r : Regs) (v : Word) : Regs := { r with h := hiByte v, l := loByte v }

/-- Writing AF clears the low nibble of F (R21, R22). -/
def Regs.setAf (r : Regs) (v : Word) : Regs := { r with a := hiByte v, f := loByte v &&& 0xF0 }

/-- `rp(p)` (R133). -/
def Regs.get16 (r : Regs) : R16 → Word
  | .bc => r.bc
  | .de => r.de
  | .hl => r.hl
  | .sp => r.sp

/-- `rp(p) <- v` (R133). -/
def Regs.set16 (r : Regs) (i : R16) (v : Word) : Regs :=
  match i with
  | .bc => r.setBc v
  | .de => r.setDe v
  | .hl => r.setHl v
  | .sp => { r with sp := v }

/-- `rp2(p)` (R134). -/
def Regs.get16s (r : Regs) : R16s → Word
  | .bc => r.bc
  | .de => r.de
  | .hl => r.hl
  | .af => r.af

/-- `rp2(p) <- v` (R134). -/
def Regs.set16s (r : Regs) (i : R16s) (v : Word) : Regs :=
  match i with
  | .bc => r.setBc v
  | .de => r.setDe v
  | .hl => r.setHl v
  | .af => r.setAf v

/-- F.Z is bit 7 (R22). -/
def Regs.fz (r : Regs) : Bool := r.f.getLsbD 7

/-- F.N is bit 6 (R22). -/
def Regs.fn (r : Regs) : Bool := r.f.getLsbD 6

/-- F.H is bit 5 (R22). -/
def Regs.fh (r : Regs) : Bool := r.f.getLsbD 5

/-- F.C is bit 4 (R22). -/
def Regs.fc (r : Regs) : Bool := r.f.getLsbD 4

/-- Whether a condition holds (R135, R330). -/
def Regs.cond (r : Regs) : Cond → Bool
  | .nz => !r.fz
  | .z => r.fz
  | .nc => !r.fc
  | .c => r.fc

end Machine

/-- The bit number as a number (R136). -/
def BitNo.toNat : BitNo → Nat
  | .n0 => 0
  | .n1 => 1
  | .n2 => 2
  | .n3 => 3
  | .n4 => 4
  | .n5 => 5
  | .n6 => 6
  | .n7 => 7

/-- The restart target 8 * y (R136). -/
def RstNo.target : RstNo → Word
  | .t00 => 0x0000
  | .t08 => 0x0008
  | .t10 => 0x0010
  | .t18 => 0x0018
  | .t20 => 0x0020
  | .t28 => 0x0028
  | .t30 => 0x0030
  | .t38 => 0x0038

/-- The field x = b[7:6] (R131). -/
def fieldX (b : Byte) : BitVec 2 := (b >>> 6).setWidth 2

/-- The field y = b[5:3] (R131). -/
def fieldY (b : Byte) : BitVec 3 := (b >>> 3).setWidth 3

/-- The field z = b[2:0] (R131). -/
def fieldZ (b : Byte) : BitVec 3 := b.setWidth 3

/-- The register a 3-bit field names; 6 is the byte at HL (R132). -/
def R8.ofField (i : BitVec 3) : Option R8 :=
  match i.toNat with
  | 0 => some .b
  | 1 => some .c
  | 2 => some .d
  | 3 => some .e
  | 4 => some .h
  | 5 => some .l
  | 6 => none
  | _ => some .a

/-- ROT[y] (R138). -/
def Rot.ofField (y : BitVec 3) : Rot :=
  match y.toNat with
  | 0 => .rlc
  | 1 => .rrc
  | 2 => .rl
  | 3 => .rr
  | 4 => .sla
  | 5 => .sra
  | 6 => .swap
  | _ => .srl

/-- The bit number a field names (R136). -/
def BitNo.ofField (y : BitVec 3) : BitNo :=
  match y.toNat with
  | 0 => .n0
  | 1 => .n1
  | 2 => .n2
  | 3 => .n3
  | 4 => .n4
  | 5 => .n5
  | 6 => .n6
  | _ => .n7

/-! ### The field values that select an operand, as the encodings write them -/

/-- The field value of a register (R132). The value 6 is the byte at HL. -/
def R8.code : R8 → BitVec 3
  | .b => 0
  | .c => 1
  | .d => 2
  | .e => 3
  | .h => 4
  | .l => 5
  | .a => 7

/-- The field value of a pair in rp (R133). -/
def R16.code : R16 → BitVec 2
  | .bc => 0
  | .de => 1
  | .hl => 2
  | .sp => 3

/-- The field value of a pair in rp2 (R134). -/
def R16s.code : R16s → BitVec 2
  | .bc => 0
  | .de => 1
  | .hl => 2
  | .af => 3

/-- The field value of a condition (R135). -/
def Cond.code : Cond → BitVec 2
  | .nz => 0
  | .z => 1
  | .nc => 2
  | .c => 3

/-- The field y of an ALU operation (43_alu8.md, common points). -/
def Alu.code : Alu → BitVec 3
  | .add => 0
  | .adc => 1
  | .sub => 2
  | .sbc => 3
  | .and => 4
  | .xor => 5
  | .or => 6
  | .cp => 7

/-- The field y of a prefixed rotate or shift (R138). -/
def Rot.code : Rot → BitVec 3
  | .rlc => 0
  | .rrc => 1
  | .rl => 2
  | .rr => 3
  | .sla => 4
  | .sra => 5
  | .swap => 6
  | .srl => 7

/-- The field y of BIT, RES and SET (R136). -/
def BitNo.code : BitNo → BitVec 3
  | .n0 => 0
  | .n1 => 1
  | .n2 => 2
  | .n3 => 3
  | .n4 => 4
  | .n5 => 5
  | .n6 => 6
  | .n7 => 7

/-- The field y of RST (R136). -/
def RstNo.code : RstNo → BitVec 3
  | .t00 => 0
  | .t08 => 1
  | .t10 => 2
  | .t18 => 3
  | .t20 => 4
  | .t28 => 5
  | .t30 => 6
  | .t38 => 7

/-- The opcode byte of an unassigned entry (R140). -/
def IllegalOp.code : IllegalOp → BitVec 8
  | .xD3 => 0xD3
  | .xDB => 0xDB
  | .xDD => 0xDD
  | .xE3 => 0xE3
  | .xE4 => 0xE4
  | .xEB => 0xEB
  | .xEC => 0xEC
  | .xED => 0xED
  | .xF4 => 0xF4
  | .xFC => 0xFC
  | .xFD => 0xFD

end Sys2Proof
end

