-- ==== Sys2Proof/Machine/Flags.lean ====
section
/-! DEFINITION. Every result and flag computation of 43_alu8.md, 44_alu16.md and 45_rotate_shift_bit.md: exact arithmetic on
natural numbers and integers (R7), narrowed at the end. -/

namespace Sys2Proof.Machine

/-- The F byte of four flags; bits 3..0 are 0 (R22). -/
def flagByte (z n h c : Bool) : Byte :=
  BitVec.ofBool z ++ BitVec.ofBool n ++ BitVec.ofBool h ++ BitVec.ofBool c ++ 0#4

/-- An 8-bit result and the F byte that goes with it. -/
structure Alu8 where
  res : Byte
  f : Byte
  deriving DecidableEq, Repr

/-- The low nibble `v[3:0]` as a number (R6). -/
def nibble (v : Byte) : Nat := v.toNat % 16

/-- `add8(a, v, cin)` (R250). -/
def add8 (a v : Byte) (cin : Bool) : Alu8 :=
  let s := a.toNat + v.toNat + cin.toNat
  let res : Byte := BitVec.ofNat 8 s
  ⟨res, flagByte (res == 0) false (decide (nibble a + nibble v + cin.toNat > 0xF)) (decide (s > 0xFF))⟩

/-- `sub8(a, v, bin)` (R251): H and C are borrows. -/
def sub8 (a v : Byte) (bin : Bool) : Alu8 :=
  let d : Int := (a.toNat : Int) - (v.toNat : Int) - (bin.toNat : Int)
  let res : Byte := BitVec.ofInt 8 d
  ⟨res, flagByte (res == 0) true
    (decide ((nibble a : Int) - (nibble v : Int) - (bin.toNat : Int) < 0)) (decide (d < 0))⟩

/-- AND sets H and clears C (R264). -/
def and8 (a v : Byte) : Alu8 := ⟨a &&& v, flagByte (a &&& v == 0) false true false⟩

/-- XOR (R267). -/
def xor8 (a v : Byte) : Alu8 := ⟨a ^^^ v, flagByte (a ^^^ v == 0) false false false⟩

/-- OR (R270). -/
def or8 (a v : Byte) : Alu8 := ⟨a ||| v, flagByte (a ||| v == 0) false false false⟩

/-- What the ALU operation leaves in A, and F, from A, the operand and the carry (R250 to R275).
CP computes the flags of a subtraction and leaves A as it was (R273). -/
def Alu8.of (op : Alu) (a v : Byte) (carry : Bool) : Alu8 :=
  match op with
  | .add => add8 a v false
  | .adc => add8 a v carry
  | .sub => sub8 a v false
  | .sbc => sub8 a v carry
  | .and => and8 a v
  | .xor => xor8 a v
  | .or => or8 a v
  | .cp => ⟨a, (sub8 a v false).f⟩

/-- INC (R276): C is kept. -/
def inc8 (v : Byte) (carry : Bool) : Alu8 :=
  let res := v + 1
  ⟨res, flagByte (res == 0) false (nibble v == 0xF) carry⟩

/-- DEC (R278): C is kept. -/
def dec8 (v : Byte) (carry : Bool) : Alu8 :=
  let res := v - 1
  ⟨res, flagByte (res == 0) true (nibble v == 0x0) carry⟩

/-- DAA (R280), from A and the four flags: N is kept, H is cleared, C is never cleared. -/
def daa8 (a : Byte) (n h c : Bool) : Alu8 :=
  if n then
    let a1 : Int := if c then (a.toNat : Int) - 0x60 else a.toNat
    let a2 : Int := if h then a1 - 0x06 else a1
    let res : Byte := BitVec.ofInt 8 a2
    ⟨res, flagByte (res == 0) n false c⟩
  else
    let high := c || decide (a.toNat > 0x99)
    let a1 := if high then a.toNat + 0x60 else a.toNat
    let a2 := if h || decide (a1 % 16 > 0x09) then a1 + 0x06 else a1
    let res : Byte := BitVec.ofNat 8 a2
    ⟨res, flagByte (res == 0) n false high⟩

/-- A 16-bit result and the F byte that goes with it. -/
structure Alu16 where
  res : Word
  f : Byte
  deriving DecidableEq, Repr

/-- ADD HL,rr (R290): Z is kept; H is the carry out of bit 11, C out of bit 15. -/
def addHl16 (hl v : Word) (z : Bool) : Alu16 :=
  let s := hl.toNat + v.toNat
  ⟨BitVec.ofNat 16 s,
    flagByte z false (decide (hl.toNat % 0x1000 + v.toNat % 0x1000 > 0xFFF)) (decide (s > 0xFFFF))⟩

/-- SP plus a signed byte (R233, R293): H and C come from the unsigned low-byte add. -/
def addSp8 (sp : Word) (b1 : Byte) : Alu16 :=
  ⟨sp + sext8 b1,
    flagByte false false (decide (sp.toNat % 16 + nibble b1 > 0xF)) (decide (sp.toNat % 256 + b1.toNat > 0xFF))⟩

/-- A rotate's or shift's result and the bit it moves out. -/
structure Shifted where
  res : Byte
  out : Bool
  deriving DecidableEq, Repr

/-- The eight operations of ROT (R305 to R320). RL and RR take the carry in; SWAP moves no bit out, so its C is 0. -/
def Shifted.of (op : Rot) (v : Byte) (carry : Bool) : Shifted :=
  match op with
  | .rlc => ⟨(v <<< 1) ||| (BitVec.ofBool (v.getLsbD 7)).setWidth 8, v.getLsbD 7⟩
  | .rrc => ⟨(v >>> 1) ||| ((BitVec.ofBool (v.getLsbD 0)).setWidth 8 <<< 7), v.getLsbD 0⟩
  | .rl => ⟨(v <<< 1) ||| (BitVec.ofBool carry).setWidth 8, v.getLsbD 7⟩
  | .rr => ⟨(v >>> 1) ||| ((BitVec.ofBool carry).setWidth 8 <<< 7), v.getLsbD 0⟩
  | .sla => ⟨v <<< 1, v.getLsbD 7⟩
  | .sra => ⟨(v >>> 1) ||| (v &&& 0x80), v.getLsbD 0⟩
  | .swap => ⟨(v <<< 4) ||| (v >>> 4), false⟩
  | .srl => ⟨v >>> 1, v.getLsbD 0⟩

/-- The prefixed rotates and shifts set Z from the result (R305). -/
def Shifted.flags (s : Shifted) : Byte := flagByte (s.res == 0) false false s.out

/-- RLCA, RRCA, RLA and RRA force Z to 0 (R300). -/
def Shifted.flagsA (s : Shifted) : Byte := flagByte false false false s.out

/-- `1 << n` in a byte (R7). -/
def bitMask (n : Nat) : Byte := 1#8 <<< n

/-- The F byte of BIT (R321): Z is the complement of the bit, N 0, H 1, C kept. -/
def bitFlags (v : Byte) (n : Nat) (carry : Bool) : Byte := flagByte (!v.getLsbD n) false true carry

end Sys2Proof.Machine
end

