-- ==== Sys2Proof/Machine/Timer.lean ====
section
/-! DEFINITION. Interrupt requests (R401) and the timer (R420 to R426). -/

namespace Sys2Proof.Machine

/-- `RequestInterrupt(i)`: `if_bits[i] <- 1` (R401). A request already set stays set. -/
def State.requestInterrupt (s : State) (i : Nat) : State := { s with ifBits := s.ifBits ||| (1#5 <<< i) }

/-- The `div_counter` bit TAC[1:0] selects (R422). -/
def Timer.selectedBit (t : Timer) : Nat :=
  match (t.tac.setWidth 2).toNat with
  | 0 => 9
  | 1 => 3
  | 2 => 5
  | _ => 7

/-- `TimerSignal()` (R423): the enable TAC[2] and the selected bit. -/
def Timer.signal (t : Timer) : Bool := t.tac.getLsbD 2 && t.div.getLsbD t.selectedBit

/-- `TimaIncrement()` (R424): reload and request in the same T-cycle as the overflow. -/
def State.timaIncrement (s : State) : State :=
  if s.timer.tima = 0xFF then
    ({ s with timer := { s.timer with tima := s.timer.tma } } : State).requestInterrupt 2
  else { s with timer := { s.timer with tima := s.timer.tima + 1 } }

/-- An update of DIV or TAC with the falling-edge check (R423, R426). -/
def State.timerUpdate (s : State) (t : Timer) : State :=
  let s1 : State := { s with timer := t }
  if s.timer.signal && !t.signal then s1.timaIncrement else s1

/-- `TimerTick()`, once per T-cycle (R423). -/
def State.timerTick (s : State) : State := s.timerUpdate { s.timer with div := s.timer.div + 1 }

/-- A write of any value to DIV: `TimerWrite(div_counter <- 0)` (R421). -/
def State.writeDiv (s : State) : State := s.timerUpdate { s.timer with div := 0 }

/-- A write to TAC: `TimerWrite(tac <- v[2:0])` (R422). -/
def State.writeTac (s : State) (v : Byte) : State := s.timerUpdate { s.timer with tac := v.setWidth 3 }

end Sys2Proof.Machine
end

