-- ==== Sys2Proof/Machine/Ppu.lean ====
section
/-! DEFINITION. The PPU: its scanline and frame state machine (R448 to R455) and the rendering of a line (R456 to R461). It
reads VRAM, OAM and its registers directly, not through the bus (R81). -/

namespace Sys2Proof.Machine

/-- LCDC bit 7 (R440). -/
def Ppu.lcdOn (p : Ppu) : Bool := p.lcdc.getLsbD 7

/-- `ModeAt(ly, dot)` (R448). -/
def modeAt (ly dot : Nat) : PpuMode :=
  if 144 ≤ ly then .vblank
  else if dot < 80 then .searchOam
  else if dot < 252 then .drawPixels
  else .hblank

/-- STAT bits 1..0 of a mode (R448). -/
def PpuMode.bits : PpuMode → BitVec 2
  | .hblank => 0
  | .vblank => 1
  | .searchOam => 2
  | .drawPixels => 3

/-- `ly = lyc`, compared continuously (R444). -/
def Ppu.lyMatch (p : Ppu) : Bool := p.ly == p.lyc.toNat

/-- The STAT line: the OR of the four selected conditions (R453). -/
def Ppu.statCondition (p : Ppu) : Bool :=
  (p.statW.getLsbD 3 && p.lyMatch) || (p.statW.getLsbD 2 && p.mode == .searchOam) ||
    (p.statW.getLsbD 1 && p.mode == .vblank) || (p.statW.getLsbD 0 && p.mode == .hblank)

/-- `UpdateStatLine()` (R453): a rising edge of the STAT line requests interrupt 1. -/
def State.updateStatLine (s : State) : State :=
  if s.ppu.lcdOn then
    let line := s.ppu.statCondition
    let s1 := if line && !s.ppu.statLine then s.requestInterrupt 1 else s
    { s1 with ppu := { s1.ppu with statLine := line } }
  else { s with ppu := { s.ppu with statLine := false } }

/-! ### Rendering (R456 to R461) -/

/-- The colour index of a tile's pixel: row `row` and column `col` of the 16-byte tile at `tile`; low bit-plane first,
leftmost pixel in bit 7 (R457). -/
def State.tileColour (s : State) (tile row col : Nat) : BitVec 2 :=
  let lo := s.mem.read (tile + 2 * row)
  let hi := s.mem.read (tile + 2 * row + 1)
  BitVec.ofBool (hi.getLsbD (7 - col)) ++ BitVec.ofBool (lo.getLsbD (7 - col))

/-- The shade a palette register gives a colour index: `pal[2c+1 : 2c]` (R445, R446). -/
def paletteShade (pal : Byte) (c : BitVec 2) : Shade := (pal >>> (2 * c.toNat)).setWidth 2

/-- `WindowCovers(x)` (R458). `x ≥ WX - 7` as signed integers is `WX ≤ x + 7`. -/
def Ppu.windowCovers (p : Ppu) (x : Nat) : Bool :=
  p.lcdc.getLsbD 5 && decide (p.wy.toNat ≤ p.ly) && decide (p.wx.toNat ≤ 166) && decide (p.wx.toNat ≤ x + 7)

/-- The column, the row and the tile map that give the background or window pixel at `x` (R457). -/
def Ppu.bgSource (p : Ppu) (x : Nat) : Nat × Nat × Nat :=
  if p.windowCovers x then (x + 7 - p.wx.toNat, p.winLine, if p.lcdc.getLsbD 6 then 0x9C00 else 0x9800)
  else ((p.scx.toNat + x) % 256, (p.scy.toNat + p.ly) % 256, if p.lcdc.getLsbD 3 then 0x9C00 else 0x9800)

/-- The bus address of the background tile with index `t` (R457): unsigned from 0x8000, or signed from 0x9000. -/
def Ppu.bgTile (p : Ppu) (t : Byte) : Nat :=
  if p.lcdc.getLsbD 4 then 0x8000 + 16 * t.toNat else ((0x9000 : Int) + 16 * t.toInt).toNat

/-- The background or window colour index `bgc[x]` (R457). -/
def State.bgColour (s : State) (x : Nat) : BitVec 2 :=
  if s.ppu.lcdc.getLsbD 0 then
    let src := s.ppu.bgSource x
    let t := s.mem.read (src.2.2 + src.2.1 / 8 * 32 + src.1 / 8)
    s.tileColour (s.ppu.bgTile t) (src.2.1 % 8) (src.1 % 8)
  else 0

/-- The base shade of a background colour index (R457): shade 0 while LCDC bit 0 is 0. -/
def Ppu.bgShade (p : Ppu) (c : BitVec 2) : Shade := if p.lcdc.getLsbD 0 then paletteShade p.bgp c else 0

/-- An object's OAM record (R459). -/
structure Obj where
  y : Byte
  x : Byte
  tile : Byte
  attr : Byte
  deriving DecidableEq, Repr

/-- OAM record `j` (R459). -/
def State.obj (s : State) (j : Nat) : Obj where
  y := s.mem.read (0xFE00 + 4 * j)
  x := s.mem.read (0xFE00 + 4 * j + 1)
  tile := s.mem.read (0xFE00 + 4 * j + 2)
  attr := s.mem.read (0xFE00 + 4 * j + 3)

/-- The object height (R459). -/
def Ppu.objHeight (p : Ppu) : Nat := if p.lcdc.getLsbD 2 then 16 else 8

/-- Whether an object is on line `ly`: `byte0 - 16 ≤ ly < byte0 - 16 + h` (R459). -/
def Ppu.objOnLine (p : Ppu) (o : Obj) : Bool :=
  decide (o.y.toNat ≤ p.ly + 16) && decide (p.ly + 16 < o.y.toNat + p.objHeight)

/-- The objects selected for the line: the first at most 10 in OAM order (R459). -/
def State.lineObjects (s : State) : List Obj :=
  (((List.range 40).map s.obj).filter s.ppu.objOnLine).take 10

/-- Put an object behind every one whose X byte is not greater (R460: X ascending, ties to the lower OAM index). -/
def insertByX (o : Obj) : List Obj → List Obj
  | [] => [o]
  | p :: rest => if o.x.toNat < p.x.toNat then o :: p :: rest else p :: insertByX o rest

/-- The selected objects in priority order (R460). -/
def State.drawOrder (s : State) : List Obj := s.lineObjects.foldl (fun l o => insertByX o l) []

/-- The colour index of an object's pixel at screen column `x`, which one of its columns covers (R460). -/
def State.objColour (s : State) (o : Obj) (x : Nat) : BitVec 2 :=
  let h := s.ppu.objHeight
  let row0 := s.ppu.ly + 16 - o.y.toNat
  let row := if o.attr.getLsbD 6 then h - 1 - row0 else row0
  let tile := if h = 16 then (o.tile &&& 0xFE).toNat + (if 8 ≤ row then 1 else 0) else o.tile.toNat
  let col0 := x + 8 - o.x.toNat
  let col := if o.attr.getLsbD 5 then 7 - col0 else col0
  s.tileColour (0x8000 + 16 * tile) (row % 8) col

/-- The object pixel at `x`: the first object in priority order whose columns [X-8, X) contain `x` and whose colour there
is not 0 (R460). -/
def State.objPixel (s : State) (objs : List Obj) (x : Nat) : Option (Obj × BitVec 2) :=
  objs.findSome? fun o =>
    if o.x.toNat ≤ x + 8 && x < o.x.toNat then
      let c := s.objColour o x
      if c = 0 then none else some (o, c)
    else none

/-- The shade of the pixel at `x` (R457, R460). -/
def State.pixel (s : State) (objs : List Obj) (x : Nat) : Shade :=
  let bgc := s.bgColour x
  let bg := s.ppu.bgShade bgc
  if s.ppu.lcdc.getLsbD 1 then
    match s.objPixel objs x with
    | some (o, c) =>
      if o.attr.getLsbD 7 && bgc != 0 then bg
      else paletteShade (if o.attr.getLsbD 4 then s.ppu.obp1 else s.ppu.obp0) c
    | none => bg
  else bg

/-- All 160 pixels of the current line (R456, R461). -/
def State.lineShades (s : State) : List Shade :=
  let objs := s.drawOrder
  (List.range Config.fbWidth).map (s.pixel objs)

/-- Whether the line drew a window row: `WindowCovers(x)` for some x while LCDC bit 0 is 1 (R458). -/
def Ppu.windowDrawn (p : Ppu) : Bool := p.lcdc.getLsbD 0 && (List.range Config.fbWidth).any p.windowCovers

/-- `RenderLine(ly)` (R456, R461), and the window's row counter (R458). -/
def State.renderLine (s : State) : State :=
  { s with ppu := { s.ppu with
      back := s.ppu.back.set s.ppu.ly s.lineShades
      winLine := if s.ppu.windowDrawn then s.ppu.winLine + 1 else s.ppu.winLine } }

/-- `PublishFrame()` (R454). -/
def State.publishFrame (s : State) : State :=
  ({ s with ppu := { s.ppu with front := s.ppu.back, frames := s.ppu.frames + 1 } } : State).requestInterrupt 0

/-- The position of the next dot (R449), with the mode there (R448); a new frame starts with window row 0. -/
def Ppu.nextDot (p : Ppu) : Ppu :=
  if p.dot + 1 = 456 then
    if p.ly + 1 = 154 then { p with dot := 0, ly := 0, winLine := 0, mode := modeAt 0 0 }
    else { p with dot := 0, ly := p.ly + 1, mode := modeAt (p.ly + 1) 0 }
  else { p with dot := p.dot + 1, mode := modeAt p.ly (p.dot + 1) }

/-- The line is rendered at its mode 3 to mode 0 change (R449, R456), `prev` being the mode before the dot. -/
def State.renderAt (s : State) (prev : PpuMode) : State :=
  if prev = .drawPixels ∧ s.ppu.mode = .hblank then s.renderLine else s

/-- The frame is published on reaching (ly 144, dot 0) (R449, R454). -/
def State.publishAt (s : State) : State :=
  if s.ppu.ly = 144 ∧ s.ppu.dot = 0 then s.publishFrame else s

/-- `PpuTick()`, once per T-cycle (R449). -/
def State.ppuTick (s : State) : State :=
  if s.ppu.lcdOn then
    ((({ s with ppu := s.ppu.nextDot } : State).renderAt s.ppu.mode).publishAt).updateStatLine
  else s

/-- `Advance(n)`: n T-cycles, each a timer tick and then a PPU tick (R154). -/
def State.advance : Nat → State → State
  | 0, s => s
  | n + 1, s => State.advance n s.timerTick.ppuTick

/-- A write to LCDC (R440): bit 7 switching off or on has the effects of R455; otherwise the byte is stored. -/
def State.writeLcdc (s : State) (v : Byte) : State :=
  if s.ppu.lcdOn && !v.getLsbD 7 then
    { s with ppu := { s.ppu with lcdc := v, ly := 0, dot := 0, mode := .hblank, statLine := false } }
  else if !s.ppu.lcdOn && v.getLsbD 7 then
    ({ s with ppu := { s.ppu with lcdc := v, ly := 0, dot := 0, mode := .searchOam, winLine := 0 } } :
      State).updateStatLine
  else { s with ppu := { s.ppu with lcdc := v } }

/-- STAT's coincidence bit: `ly = lyc` while the LCD is on (R441). -/
def Ppu.coincidence (p : Ppu) : Bool := p.lcdOn && p.lyMatch

/-- STAT's mode bits: the mode while the LCD is on, else 0 (R441). -/
def Ppu.modeRead (p : Ppu) : BitVec 2 := if p.lcdOn then p.mode.bits else 0

/-- The byte STAT reads as (R441). -/
def Ppu.statByte (p : Ppu) : Byte := 1#1 ++ p.statW ++ BitVec.ofBool p.coincidence ++ p.modeRead

/-- The byte LY reads as (R443). -/
def Ppu.lyByte (p : Ppu) : Byte := if p.lcdOn then BitVec.ofNat 8 p.ly else 0

end Sys2Proof.Machine
end

