-- ==== Sys2Proof/Machine/Bus.lean ====
section
/-! DEFINITION. The 16-bit bus (20_memory.md): the address map (R62), the I/O register map (R75), the cartridge mappers
(R92 to R98), the boot overlay (R83), OAM DMA (R436) and the VRAM lock (R82). `busRead` and `busWrite` are the map itself;
`cpuRead` and `cpuWrite` are a CPU access, which the lock may block. Both are total: no address faults (R61, R74). -/

namespace Sys2Proof.Machine

/-- The regions of the address map (R62). -/
inductive Region where
  | romLow
  | romHigh
  | vram
  | cartRam
  | wram
  | echo
  | oam
  | unusable
  | io
  | hram
  | ie
  deriving DecidableEq, Repr

/-- The region of an address (R62). -/
def regionOf (a : Word) : Region :=
  if a.toNat < 0x4000 then .romLow
  else if a.toNat < 0x8000 then .romHigh
  else if a.toNat < 0xA000 then .vram
  else if a.toNat < 0xC000 then .cartRam
  else if a.toNat < 0xE000 then .wram
  else if a.toNat < 0xFE00 then .echo
  else if a.toNat < 0xFEA0 then .oam
  else if a.toNat < 0xFF00 then .unusable
  else if a.toNat < 0xFF80 then .io
  else if a.toNat < 0xFFFF then .hram
  else .ie

/-- The registers of the I/O window (R75). -/
inductive IoReg where
  | p1 | sb | sc | div | tima | tma | tac | intFlag | audio
  | lcdc | stat | scy | scx | ly | lyc | dma | bgp | obp0 | obp1 | wy | wx | boot
  | unnamed
  deriving DecidableEq, Repr

/-- The register at an offset in the I/O window 0xFF00..0xFF7F (R75). -/
def ioRegOf (off : Nat) : IoReg :=
  match off with
  | 0x00 => .p1
  | 0x01 => .sb
  | 0x02 => .sc
  | 0x04 => .div
  | 0x05 => .tima
  | 0x06 => .tma
  | 0x07 => .tac
  | 0x0F => .intFlag
  | 0x40 => .lcdc
  | 0x41 => .stat
  | 0x42 => .scy
  | 0x43 => .scx
  | 0x44 => .ly
  | 0x45 => .lyc
  | 0x46 => .dma
  | 0x47 => .bgp
  | 0x48 => .obp0
  | 0x49 => .obp1
  | 0x4A => .wy
  | 0x4B => .wx
  | 0x50 => .boot
  | n => if 0x10 ≤ n ∧ n ≤ 0x3F then .audio else .unnamed

/-- The register at an address of the I/O window (R75): its offset is the address's low byte. -/
def ioRegAt (a : Word) : IoReg := ioRegOf (loByte a).toNat

/-! ### The cartridge (R92 to R98) -/

/-- The number of 16 KiB banks of an MBC1 image: `max(2, ceil(len / 16384))` (R94). -/
def Cartridge.bankCount (c : Cartridge) : Nat := max 2 ((c.romLen + 16383) / 16384)

/-- The bank in the lower window 0x0000..0x3FFF (R97). -/
def Cartridge.lowBank (c : Cartridge) (m : Mbc) : Nat :=
  (if m.bankMode then m.bankHi.toNat * 32 else 0) % c.bankCount

/-- The bank in the upper window 0x4000..0x7FFF (R97). -/
def Cartridge.highBank (c : Cartridge) (m : Mbc) : Nat := (m.bankHi.toNat * 32 + m.bankLo.toNat) % c.bankCount

/-- The image offset that an address of the ROM window selects: the address itself for ROM-only (R92), bank by bank for
MBC1 (R97). -/
def Cartridge.romOffset (c : Cartridge) (m : Mbc) (a : Word) : Nat :=
  match c.mapper with
  | .romOnly => a.toNat
  | .mbc1 => (if a.toNat < 0x4000 then c.lowBank m else c.highBank m) * 0x4000 + a.toNat % 0x4000

/-- The image byte at an offset; SENTINEL past the image's end (R74, R92, R97). -/
def Cartridge.romByte (c : Cartridge) (off : Nat) : Byte :=
  if off < c.romLen then c.rom.read off else Config.sentinel

/-- The byte of the ROM window (R63). With no cartridge `rom` is empty (R522). -/
def State.romRead (s : State) (a : Word) : Byte :=
  match s.cart with
  | none => Config.sentinel
  | some c => c.romByte (c.romOffset s.mbc a)

/-- The byte of the boot image (R83). -/
def State.bootByte (s : State) (a : Word) : Byte :=
  match s.params.bootMode with
  | .skip => Config.sentinel
  | .bootRom image => image.read a.toNat

/-- Whether the boot ROM overlays an address (R83). -/
def State.bootOverlay (s : State) (a : Word) : Bool := s.bootMapped && decide (a.toNat < 0x100)

/-- The cartridge RAM offset an address of 0xA000..0xBFFF reaches, if RAM is present and enabled (R66, R98). -/
def State.cartRamOffset (s : State) (a : Word) : Option Nat :=
  match s.cart with
  | none => none
  | some c =>
    match c.mapper with
    | .romOnly => none
    | .mbc1 =>
      if s.mbc.ramEn && decide (0 < c.ramSize) then
        some (((if s.mbc.bankMode && decide (c.ramSize = 32768) then s.mbc.bankHi.toNat else 0) * 0x2000 +
          (a.toNat - 0xA000)) % c.ramSize)
      else none

/-- An MBC1 control write (R96). -/
def Mbc.control (m : Mbc) (a : Word) (v : Byte) : Mbc :=
  if a.toNat < 0x2000 then { m with ramEn := v.setWidth 4 == 0xA#4 }
  else if a.toNat < 0x4000 then { m with bankLo := if v.setWidth 5 = 0#5 then 1 else v.setWidth 5 }
  else if a.toNat < 0x6000 then { m with bankHi := v.setWidth 2 }
  else { m with bankMode := v.getLsbD 0 }

/-- A write to the ROM window goes to the mapper and changes no ROM byte (R64); ROM-only ignores it (R92). -/
def State.mapperWrite (s : State) (a : Word) (v : Byte) : State :=
  match s.cart with
  | none => s
  | some c =>
    match c.mapper with
    | .romOnly => s
    | .mbc1 => { s with mbc := s.mbc.control a v }

/-- A write to the cartridge RAM window; ignored when no RAM is present and enabled (R66, R98). -/
def State.cartRamWrite (s : State) (a : Word) (v : Byte) : State :=
  match s.cartRamOffset a with
  | some off => { s with cartRam := s.cartRam.write off v }
  | none => s

/-! ### Reads -/

/-- The byte a register of the I/O window reads as (R75), `a` being the address read; no read has a side effect (R80). -/
def State.ioRegRead (s : State) (r : IoReg) (a : Word) : Byte :=
  match r with
  | .p1 => 0b11#2 ++ s.p1Sel ++ 0b1111#4
  | .sb => s.sb
  | .sc => 0x7E ||| s.sc
  | .div => hiByte s.timer.div
  | .tima => s.timer.tima
  | .tma => s.timer.tma
  | .tac => 0b11111#5 ++ s.timer.tac
  | .intFlag => 0b111#3 ++ s.ifBits
  | .audio => s.mem.read a.toNat
  | .lcdc => s.ppu.lcdc
  | .stat => s.ppu.statByte
  | .scy => s.ppu.scy
  | .scx => s.ppu.scx
  | .ly => s.ppu.lyByte
  | .lyc => s.ppu.lyc
  | .dma => s.ppu.dma
  | .bgp => s.ppu.bgp
  | .obp0 => s.ppu.obp0
  | .obp1 => s.ppu.obp1
  | .wy => s.ppu.wy
  | .wx => s.ppu.wx
  | .boot => 0xFF
  | .unnamed =>
    match s.params.ioUnusedPolicy with
    | .storage => s.mem.read a.toNat
    | .sentinel => Config.sentinel

/-- `Read(address)` (R61, R62). -/
def State.busRead (s : State) (a : Word) : Byte :=
  match regionOf a with
  | .romLow => if s.bootOverlay a then s.bootByte a else s.romRead a
  | .romHigh => s.romRead a
  | .vram => s.mem.read a.toNat
  | .cartRam =>
    match s.cartRamOffset a with
    | some off => s.cartRam.read off
    | none => Config.sentinel
  | .wram => s.mem.read a.toNat
  | .echo => s.mem.read (a.toNat - 0x2000)
  | .oam => s.mem.read a.toNat
  | .unusable => Config.sentinel
  | .io => s.ioRegRead (ioRegAt a) a
  | .hram => s.mem.read a.toNat
  | .ie => s.ie

/-! ### Writes -/

/-- Store a byte in the RAM that `mem` holds. -/
def State.store (s : State) (a : Nat) (v : Byte) : State := { s with mem := s.mem.write a v }

/-- One byte of an OAM DMA copy: `oam[i] <- Read((v * 0x100 + i) mod 2^16)` (R436). The copy is never blocked (R82). -/
def State.dmaByte (s : State) (v : Byte) (i : Nat) : State :=
  s.store (0xFE00 + i) (s.busRead (BitVec.ofNat 16 (v.toNat * 0x100 + i)))

/-- A write to DMA (R436): the byte is stored and 160 bytes are copied inside the write. -/
def State.writeDma (s : State) (v : Byte) : State :=
  (List.range 160).foldl (fun t i => t.dmaByte v i) { s with ppu := { s.ppu with dma := v } }

/-- The effect of a write to a register of the I/O window (R75), `a` being the address written. -/
def State.ioRegWrite (s : State) (r : IoReg) (a : Word) (v : Byte) : State :=
  match r with
  | .p1 => { s with p1Sel := (v >>> 4).setWidth 2 }
  | .sb => { s with sb := v }
  | .sc => { s with sc := v &&& 0x81 }
  | .div => s.writeDiv
  | .tima => { s with timer := { s.timer with tima := v } }
  | .tma => { s with timer := { s.timer with tma := v } }
  | .tac => s.writeTac v
  | .intFlag => { s with ifBits := v.setWidth 5 }
  | .audio => s.store a.toNat v
  | .lcdc => s.writeLcdc v
  | .stat => { s with ppu := { s.ppu with statW := (v >>> 3).setWidth 4 } }
  | .scy => { s with ppu := { s.ppu with scy := v } }
  | .scx => { s with ppu := { s.ppu with scx := v } }
  | .ly => s
  | .lyc => { s with ppu := { s.ppu with lyc := v } }
  | .dma => s.writeDma v
  | .bgp => { s with ppu := { s.ppu with bgp := v } }
  | .obp0 => { s with ppu := { s.ppu with obp0 := v } }
  | .obp1 => { s with ppu := { s.ppu with obp1 := v } }
  | .wy => { s with ppu := { s.ppu with wy := v } }
  | .wx => { s with ppu := { s.ppu with wx := v } }
  | .boot => if v = 0 then s else { s with bootMapped := false }
  | .unnamed =>
    match s.params.ioUnusedPolicy with
    | .storage => s.store a.toNat v
    | .sentinel => s

/-- `Write(address, byte)` (R61, R62). -/
def State.busWrite (s : State) (a : Word) (v : Byte) : State :=
  match regionOf a with
  | .romLow => s.mapperWrite a v
  | .romHigh => s.mapperWrite a v
  | .vram => s.store a.toNat v
  | .cartRam => s.cartRamWrite a v
  | .wram => s.store a.toNat v
  | .echo => s.store (a.toNat - 0x2000) v
  | .oam => s.store a.toNat v
  | .unusable => s
  | .io => s.ioRegWrite (ioRegAt a) a v
  | .hram => s.store a.toNat v
  | .ie => { s with ie := v }

/-! ### CPU accesses under VRAM_LOCK (R82) -/

/-- Whether the lock blocks a CPU access to an address (R82). -/
def State.locked (s : State) (a : Word) : Bool :=
  s.params.vramLock && s.ppu.lcdOn &&
    match regionOf a with
    | .vram => s.ppu.mode == .drawPixels
    | .oam => s.ppu.mode == .searchOam || s.ppu.mode == .drawPixels
    | _ => false

/-- `MemRead(a, 1)`: a CPU read (R9, R61, R82). -/
def State.cpuRead (s : State) (a : Word) : Byte := if s.locked a then 0xFF else s.busRead a

/-- `MemWrite(a, 1, v)`: a CPU write (R9, R61, R82). -/
def State.cpuWrite (s : State) (a : Word) (v : Byte) : State := if s.locked a then s else s.busWrite a v

end Sys2Proof.Machine
end

