-- ==== Sys2Proof/Machine/Ops.lean ====
section
/-! DEFINITION. The named operations the meanings share: register and flag writes, stack accesses (R77), the cycle charge
(R155), taking an interrupt and returning from one (R406, R408), fetching an instruction (R151, R152), and the checks of
an Update (R153, R404). -/

namespace Sys2Proof.Machine

/-- `reg8(i) <- v` (R132). -/
def State.setReg8 (s : State) (i : R8) (v : Byte) : State := { s with regs := s.regs.set8 i v }

/-- `rp(p) <- v` (R133). -/
def State.setReg16 (s : State) (i : R16) (v : Word) : State := { s with regs := s.regs.set16 i v }

/-- `rp2(p) <- v` (R134). -/
def State.setReg16s (s : State) (i : R16s) (v : Word) : State := { s with regs := s.regs.set16s i v }

/-- `F <- v`, for a byte whose low nibble is 0 (R22). -/
def State.setF (s : State) (v : Byte) : State := { s with regs := { s.regs with f := v } }

/-- `SP <- v` (R23). -/
def State.setSp (s : State) (v : Word) : State := { s with regs := { s.regs with sp := v } }

/-- `PC <- v` (R24). -/
def State.setPc (s : State) (v : Word) : State := { s with regs := { s.regs with pc := v } }

/-- The cost a rule returns, added to the cycle counter (R30, R155). The devices are advanced by it afterwards, once for the
whole instruction (R150). -/
def State.charge (s : State) (n : Nat) : State := { s with cycles := s.cycles + n }

/-- `MemWrite(a, 2, v)`: low byte at `a`, then high byte at `a + 1` (R9, R76). -/
def State.cpuWrite16 (s : State) (a v : Word) : State := (s.cpuWrite a (loByte v)).cpuWrite (a + 1) (hiByte v)

/-- `Push16(v)` (R77): high byte at SP - 1, then low byte at SP - 2. -/
def State.push16 (s : State) (v : Word) : State :=
  let s1 := s.setSp (s.regs.sp - 1)
  let s2 := s1.cpuWrite s1.regs.sp (hiByte v)
  let s3 := s2.setSp (s2.regs.sp - 1)
  s3.cpuWrite s3.regs.sp (loByte v)

/-- The value `Pop16()` returns (R77): low byte at SP, high byte at SP + 1. -/
def State.popValue (s : State) : Word := wordOf (s.cpuRead (s.regs.sp + 1)) (s.cpuRead s.regs.sp)

/-- The state after `Pop16()` (R77): a read has no side effect (R80), so only SP changes. -/
def State.pop16 (s : State) : State := s.setSp (s.regs.sp + 2)

/-! ### Interrupts -/

/-- `pending = ie[4:0] & if_bits[4:0]` (R404). -/
def State.pending (s : State) : BitVec 5 := s.ie.setWidth 5 &&& s.ifBits

/-- The lowest pending source: VBlank first, Joypad last (R407). -/
def lowestSource (p : BitVec 5) : Nat :=
  if p.getLsbD 0 then 0
  else if p.getLsbD 1 then 1
  else if p.getLsbD 2 then 2
  else if p.getLsbD 3 then 3
  else 4

/-- The vector `0x0040 + 8 * i` (R401, R406). -/
def vector (i : Nat) : Word := BitVec.ofNat 16 (0x0040 + 8 * i)

/-- `Dispatch(i)`, the trap entry (R406). It saves only the PC, on the stack; there is one mode and no status register to
change. The caller advances the devices and charges 20 cycles. -/
def State.dispatch (s : State) (i : Nat) : State :=
  let s1 : State := { s with ifBits := s.ifBits &&& ~~~(1#5 <<< i), ime := false, eiPending := false }
  (s1.push16 s1.regs.pc).setPc (vector i)

/-- `PC <- Pop16()`, the return of RET (R338). -/
def State.popPc (s : State) : State := s.pop16.setPc s.popValue

/-- The trap return (R340, R408): `PC <- Pop16(); IME <- 1`, at once; it restores nothing else. -/
def State.returnFromInterrupt (s : State) : State := { s.popPc with ime := true }

/-! ### Fetching -/

/-- The state after `FetchByte()` (R151): the PC advances, unless the HALT-bug latch is set, which this clears. -/
def State.afterFetchByte (s : State) : State :=
  if s.haltBug then { s with haltBug := false } else s.setPc (s.regs.pc + 1)

/-- The byte `FetchByte()` returns (R151). -/
def State.fetchByte (s : State) : Byte := s.cpuRead s.regs.pc

/-- The instruction at the PC (R150, R152): the opcode and then `skip` operand bytes in address order, with the state after
those reads. -/
def State.fetch (s : State) : Instr × State :=
  let op := s.fetchByte
  let s1 := s.afterFetchByte
  match skip op with
  | 0 => (decodeOp op 0 0, s1)
  | 1 => (decodeOp op s1.fetchByte 0, s1.afterFetchByte)
  | _ => (decodeOp op s1.fetchByte s1.afterFetchByte.fetchByte, s1.afterFetchByte.afterFetchByte)

/-! ### The checks of an Update -/

/-- `b.cond(state)` (R153, R470); an absent condition is true. A condition is a predicate over the architectural state, so
the host side is hidden from it. -/
def Breakpoint.holds (b : Breakpoint) (s : State) : Bool :=
  match b.cond with
  | none => true
  | some k => breakpointCondition k { s with host := HostSide.initial }

/-- `BreakpointHit()` (R153). -/
def State.breakpointHit (s : State) : Bool :=
  !s.bpResume && s.breakpoints.any fun b => b.addr == s.regs.pc && b.holds s

/-- What an Update does before it fetches an instruction (R150): `bp_resume <- 0`, and the EI latch moves into IME. -/
def State.beginInstr (s : State) : State :=
  { s with bpResume := false, ime := s.ime || s.eiPending, eiPending := false }

/-- `Advance(n); cycles <- cycles + n` for a step that executes no instruction (R150). -/
def State.spend (s : State) (n : Nat) : State := (s.advance n).charge n

end Sys2Proof.Machine
end

