-- ==== Sys2Proof/Machine/Load8.lean ====
section
/-! DEFINITION. The 8-bit loads and stores (41_load8.md, R201 to R219): the shared shapes, then one meaning per row. No flag is
written. Each shape ends by charging the cost its rule returns. -/

namespace Sys2Proof.Machine

/-- `r <- r'`, 4 cycles (R201). -/
def loadRegReg (dst src : R8) (s : State) : Result := .next ((s.setReg8 dst (s.regs.get8 src)).charge 4)

/-- `r <- n8`, 8 cycles (R202). -/
def loadRegImm (dst : R8) (n : Byte) (s : State) : Result := .next ((s.setReg8 dst n).charge 8)

/-- `r <- MemRead(a, 1)` (R203, R206, R207, R210, R212, R214). -/
def loadFrom (dst : R8) (a : Word) (cost : Nat) (s : State) : Result :=
  .next ((s.setReg8 dst (s.cpuRead a)).charge cost)

/-- `MemWrite(a, 1, v)` (R204, R205, R208, R209, R211, R213, R215). -/
def storeAt (a : Word) (v : Byte) (cost : Nat) (s : State) : Result := .next ((s.cpuWrite a v).charge cost)

/-- The high-page address `0xFF00 + n8` (R136). -/
def highPage (n : Byte) : Word := wordOf 0xFF n

/-- `A <- MemRead(HL, 1)` and then HL takes its new value, 8 cycles (R216, R217). -/
def loadAndStep (hl : Word) (s : State) : Result :=
  .next (((s.setReg8 .a (s.cpuRead s.regs.hl)).setReg16 .hl hl).charge 8)

/-- `MemWrite(HL, 1, A)` and then HL takes its new value, 8 cycles (R218, R219). -/
def storeAndStep (hl : Word) (s : State) : Result :=
  .next (((s.cpuWrite s.regs.hl s.regs.a).setReg16 .hl hl).charge 8)

/-! ### The meanings, one per row of the opcode table -/

/-! LD r,r' (R201). -/

/-- `LD B,B`, 40 (R201). -/
def exec_ld_b_b (s : State) : Result := loadRegReg .b .b s

/-- `LD B,C`, 41 (R201). -/
def exec_ld_b_c (s : State) : Result := loadRegReg .b .c s

/-- `LD B,D`, 42 (R201). -/
def exec_ld_b_d (s : State) : Result := loadRegReg .b .d s

/-- `LD B,E`, 43 (R201). -/
def exec_ld_b_e (s : State) : Result := loadRegReg .b .e s

/-- `LD B,H`, 44 (R201). -/
def exec_ld_b_h (s : State) : Result := loadRegReg .b .h s

/-- `LD B,L`, 45 (R201). -/
def exec_ld_b_l (s : State) : Result := loadRegReg .b .l s

/-- `LD B,A`, 47 (R201). -/
def exec_ld_b_a (s : State) : Result := loadRegReg .b .a s

/-- `LD C,B`, 48 (R201). -/
def exec_ld_c_b (s : State) : Result := loadRegReg .c .b s

/-- `LD C,C`, 49 (R201). -/
def exec_ld_c_c (s : State) : Result := loadRegReg .c .c s

/-- `LD C,D`, 4A (R201). -/
def exec_ld_c_d (s : State) : Result := loadRegReg .c .d s

/-- `LD C,E`, 4B (R201). -/
def exec_ld_c_e (s : State) : Result := loadRegReg .c .e s

/-- `LD C,H`, 4C (R201). -/
def exec_ld_c_h (s : State) : Result := loadRegReg .c .h s

/-- `LD C,L`, 4D (R201). -/
def exec_ld_c_l (s : State) : Result := loadRegReg .c .l s

/-- `LD C,A`, 4F (R201). -/
def exec_ld_c_a (s : State) : Result := loadRegReg .c .a s

/-- `LD D,B`, 50 (R201). -/
def exec_ld_d_b (s : State) : Result := loadRegReg .d .b s

/-- `LD D,C`, 51 (R201). -/
def exec_ld_d_c (s : State) : Result := loadRegReg .d .c s

/-- `LD D,D`, 52 (R201). -/
def exec_ld_d_d (s : State) : Result := loadRegReg .d .d s

/-- `LD D,E`, 53 (R201). -/
def exec_ld_d_e (s : State) : Result := loadRegReg .d .e s

/-- `LD D,H`, 54 (R201). -/
def exec_ld_d_h (s : State) : Result := loadRegReg .d .h s

/-- `LD D,L`, 55 (R201). -/
def exec_ld_d_l (s : State) : Result := loadRegReg .d .l s

/-- `LD D,A`, 57 (R201). -/
def exec_ld_d_a (s : State) : Result := loadRegReg .d .a s

/-- `LD E,B`, 58 (R201). -/
def exec_ld_e_b (s : State) : Result := loadRegReg .e .b s

/-- `LD E,C`, 59 (R201). -/
def exec_ld_e_c (s : State) : Result := loadRegReg .e .c s

/-- `LD E,D`, 5A (R201). -/
def exec_ld_e_d (s : State) : Result := loadRegReg .e .d s

/-- `LD E,E`, 5B (R201). -/
def exec_ld_e_e (s : State) : Result := loadRegReg .e .e s

/-- `LD E,H`, 5C (R201). -/
def exec_ld_e_h (s : State) : Result := loadRegReg .e .h s

/-- `LD E,L`, 5D (R201). -/
def exec_ld_e_l (s : State) : Result := loadRegReg .e .l s

/-- `LD E,A`, 5F (R201). -/
def exec_ld_e_a (s : State) : Result := loadRegReg .e .a s

/-- `LD H,B`, 60 (R201). -/
def exec_ld_h_b (s : State) : Result := loadRegReg .h .b s

/-- `LD H,C`, 61 (R201). -/
def exec_ld_h_c (s : State) : Result := loadRegReg .h .c s

/-- `LD H,D`, 62 (R201). -/
def exec_ld_h_d (s : State) : Result := loadRegReg .h .d s

/-- `LD H,E`, 63 (R201). -/
def exec_ld_h_e (s : State) : Result := loadRegReg .h .e s

/-- `LD H,H`, 64 (R201). -/
def exec_ld_h_h (s : State) : Result := loadRegReg .h .h s

/-- `LD H,L`, 65 (R201). -/
def exec_ld_h_l (s : State) : Result := loadRegReg .h .l s

/-- `LD H,A`, 67 (R201). -/
def exec_ld_h_a (s : State) : Result := loadRegReg .h .a s

/-- `LD L,B`, 68 (R201). -/
def exec_ld_l_b (s : State) : Result := loadRegReg .l .b s

/-- `LD L,C`, 69 (R201). -/
def exec_ld_l_c (s : State) : Result := loadRegReg .l .c s

/-- `LD L,D`, 6A (R201). -/
def exec_ld_l_d (s : State) : Result := loadRegReg .l .d s

/-- `LD L,E`, 6B (R201). -/
def exec_ld_l_e (s : State) : Result := loadRegReg .l .e s

/-- `LD L,H`, 6C (R201). -/
def exec_ld_l_h (s : State) : Result := loadRegReg .l .h s

/-- `LD L,L`, 6D (R201). -/
def exec_ld_l_l (s : State) : Result := loadRegReg .l .l s

/-- `LD L,A`, 6F (R201). -/
def exec_ld_l_a (s : State) : Result := loadRegReg .l .a s

/-- `LD A,B`, 78 (R201). -/
def exec_ld_a_b (s : State) : Result := loadRegReg .a .b s

/-- `LD A,C`, 79 (R201). -/
def exec_ld_a_c (s : State) : Result := loadRegReg .a .c s

/-- `LD A,D`, 7A (R201). -/
def exec_ld_a_d (s : State) : Result := loadRegReg .a .d s

/-- `LD A,E`, 7B (R201). -/
def exec_ld_a_e (s : State) : Result := loadRegReg .a .e s

/-- `LD A,H`, 7C (R201). -/
def exec_ld_a_h (s : State) : Result := loadRegReg .a .h s

/-- `LD A,L`, 7D (R201). -/
def exec_ld_a_l (s : State) : Result := loadRegReg .a .l s

/-- `LD A,A`, 7F (R201). -/
def exec_ld_a_a (s : State) : Result := loadRegReg .a .a s

/-! LD r,n8 (R202). -/

/-- `LD B,n8`, 06 (R202). -/
def exec_ld_b_n8 (n : Byte) (s : State) : Result := loadRegImm .b n s

/-- `LD C,n8`, 0E (R202). -/
def exec_ld_c_n8 (n : Byte) (s : State) : Result := loadRegImm .c n s

/-- `LD D,n8`, 16 (R202). -/
def exec_ld_d_n8 (n : Byte) (s : State) : Result := loadRegImm .d n s

/-- `LD E,n8`, 1E (R202). -/
def exec_ld_e_n8 (n : Byte) (s : State) : Result := loadRegImm .e n s

/-- `LD H,n8`, 26 (R202). -/
def exec_ld_h_n8 (n : Byte) (s : State) : Result := loadRegImm .h n s

/-- `LD L,n8`, 2E (R202). -/
def exec_ld_l_n8 (n : Byte) (s : State) : Result := loadRegImm .l n s

/-- `LD A,n8`, 3E (R202). -/
def exec_ld_a_n8 (n : Byte) (s : State) : Result := loadRegImm .a n s

/-! LD r,(HL) (R203). -/

/-- `LD B,(HL)`, 46 (R203). -/
def exec_ld_b_mhl (s : State) : Result := loadFrom .b s.regs.hl 8 s

/-- `LD C,(HL)`, 4E (R203). -/
def exec_ld_c_mhl (s : State) : Result := loadFrom .c s.regs.hl 8 s

/-- `LD D,(HL)`, 56 (R203). -/
def exec_ld_d_mhl (s : State) : Result := loadFrom .d s.regs.hl 8 s

/-- `LD E,(HL)`, 5E (R203). -/
def exec_ld_e_mhl (s : State) : Result := loadFrom .e s.regs.hl 8 s

/-- `LD H,(HL)`, 66 (R203). -/
def exec_ld_h_mhl (s : State) : Result := loadFrom .h s.regs.hl 8 s

/-- `LD L,(HL)`, 6E (R203). -/
def exec_ld_l_mhl (s : State) : Result := loadFrom .l s.regs.hl 8 s

/-- `LD A,(HL)`, 7E (R203). -/
def exec_ld_a_mhl (s : State) : Result := loadFrom .a s.regs.hl 8 s

/-! LD (HL),r (R204). -/

/-- `LD (HL),B`, 70 (R204). -/
def exec_ld_mhl_b (s : State) : Result := storeAt s.regs.hl (s.regs.get8 .b) 8 s

/-- `LD (HL),C`, 71 (R204). -/
def exec_ld_mhl_c (s : State) : Result := storeAt s.regs.hl (s.regs.get8 .c) 8 s

/-- `LD (HL),D`, 72 (R204). -/
def exec_ld_mhl_d (s : State) : Result := storeAt s.regs.hl (s.regs.get8 .d) 8 s

/-- `LD (HL),E`, 73 (R204). -/
def exec_ld_mhl_e (s : State) : Result := storeAt s.regs.hl (s.regs.get8 .e) 8 s

/-- `LD (HL),H`, 74 (R204). -/
def exec_ld_mhl_h (s : State) : Result := storeAt s.regs.hl (s.regs.get8 .h) 8 s

/-- `LD (HL),L`, 75 (R204). -/
def exec_ld_mhl_l (s : State) : Result := storeAt s.regs.hl (s.regs.get8 .l) 8 s

/-- `LD (HL),A`, 77 (R204). -/
def exec_ld_mhl_a (s : State) : Result := storeAt s.regs.hl (s.regs.get8 .a) 8 s

/-! LD (HL),n8 (R205). -/

/-- `LD (HL),n8`, 36 (R205). -/
def exec_ld_mhl_n8 (n : Byte) (s : State) : Result := storeAt s.regs.hl n 12 s

/-! LD A,(BC) (R206). -/

/-- `LD A,(BC)`, 0A (R206). -/
def exec_ld_a_mbc (s : State) : Result := loadFrom .a s.regs.bc 8 s

/-! LD A,(DE) (R207). -/

/-- `LD A,(DE)`, 1A (R207). -/
def exec_ld_a_mde (s : State) : Result := loadFrom .a s.regs.de 8 s

/-! LD (BC),A (R208). -/

/-- `LD (BC),A`, 02 (R208). -/
def exec_ld_mbc_a (s : State) : Result := storeAt s.regs.bc s.regs.a 8 s

/-! LD (DE),A (R209). -/

/-- `LD (DE),A`, 12 (R209). -/
def exec_ld_mde_a (s : State) : Result := storeAt s.regs.de s.regs.a 8 s

/-! LD A,(a16) (R210). -/

/-- `LD A,(a16)`, FA (R210). -/
def exec_ld_a_ma16 (n : Word) (s : State) : Result := loadFrom .a n 16 s

/-! LD (a16),A (R211). -/

/-- `LD (a16),A`, EA (R211). -/
def exec_ld_ma16_a (n : Word) (s : State) : Result := storeAt n s.regs.a 16 s

/-! LDH A,(a8) (R212). -/

/-- `LDH A,(a8)`, F0 (R212). -/
def exec_ldh_a_ma8 (n : Byte) (s : State) : Result := loadFrom .a (highPage n) 12 s

/-! LDH (a8),A (R213). -/

/-- `LDH (a8),A`, E0 (R213). -/
def exec_ldh_ma8_a (n : Byte) (s : State) : Result := storeAt (highPage n) s.regs.a 12 s

/-! LD A,(C) (R214). -/

/-- `LD A,(C)`, F2 (R214). -/
def exec_ld_a_mc (s : State) : Result := loadFrom .a (highPage s.regs.c) 8 s

/-! LD (C),A (R215). -/

/-- `LD (C),A`, E2 (R215). -/
def exec_ld_mc_a (s : State) : Result := storeAt (highPage s.regs.c) s.regs.a 8 s

/-! LD A,(HL+) (R216). -/

/-- `LD A,(HL+)`, 2A (R216). -/
def exec_ld_a_mhli (s : State) : Result := loadAndStep (s.regs.hl + 1) s

/-! LD A,(HL-) (R217). -/

/-- `LD A,(HL-)`, 3A (R217). -/
def exec_ld_a_mhld (s : State) : Result := loadAndStep (s.regs.hl - 1) s

/-! LD (HL+),A (R218). -/

/-- `LD (HL+),A`, 22 (R218). -/
def exec_ld_mhli_a (s : State) : Result := storeAndStep (s.regs.hl + 1) s

/-! LD (HL-),A (R219). -/

/-- `LD (HL-),A`, 32 (R219). -/
def exec_ld_mhld_a (s : State) : Result := storeAndStep (s.regs.hl - 1) s

end Sys2Proof.Machine
end

