-- ==== Sys2Proof/Machine/Load16.lean ====
section
/-! DEFINITION. The 16-bit loads and the stack (42_load16.md, R230 to R236). -/

namespace Sys2Proof.Machine

/-- `rp(p) <- n16`, 12 cycles (R230). -/
def loadPairImm (p : R16) (n : Word) (s : State) : Result := .next ((s.setReg16 p n).charge 12)

/-- `MemWrite(a16, 2, SP)`, low byte first, 20 cycles (R231). -/
def storeSp (a : Word) (s : State) : Result := .next ((s.cpuWrite16 a s.regs.sp).charge 20)

/-- `SP <- HL`, 8 cycles (R232). -/
def loadSpHl (s : State) : Result := .next ((s.setSp s.regs.hl).charge 8)

/-- `HL <- SP + sext(e8)` with the flags of the unsigned low-byte add, 12 cycles (R233). -/
def loadHlSp (e : Byte) (s : State) : Result :=
  .next (((s.setReg16 .hl (addSp8 s.regs.sp e).res).setF (addSp8 s.regs.sp e).f).charge 12)

/-- `Push16(rp2(p))`, 16 cycles (R234). -/
def pushPair (p : R16s) (s : State) : Result := .next ((s.push16 (s.regs.get16s p)).charge 16)

/-- `rp2(p) <- Pop16()`, 12 cycles (R235); AF takes the popped low byte without its low nibble (R236). -/
def popPair (p : R16s) (s : State) : Result := .next ((s.pop16.setReg16s p s.popValue).charge 12)

/-! ### The meanings, one per row of the opcode table -/

/-! LD rr,n16 (R230). -/

/-- `LD BC,n16`, 01 (R230). -/
def exec_ld_bc_n16 (n : Word) (s : State) : Result := loadPairImm .bc n s

/-- `LD DE,n16`, 11 (R230). -/
def exec_ld_de_n16 (n : Word) (s : State) : Result := loadPairImm .de n s

/-- `LD HL,n16`, 21 (R230). -/
def exec_ld_hl_n16 (n : Word) (s : State) : Result := loadPairImm .hl n s

/-- `LD SP,n16`, 31 (R230). -/
def exec_ld_sp_n16 (n : Word) (s : State) : Result := loadPairImm .sp n s

/-! LD (a16),SP (R231). -/

/-- `LD (a16),SP`, 08 (R231). -/
def exec_ld_ma16_sp (n : Word) (s : State) : Result := storeSp n s

/-! LD SP,HL (R232). -/

/-- `LD SP,HL`, F9 (R232). -/
def exec_ld_sp_hl (s : State) : Result := loadSpHl s

/-! LD HL,SP+e8 (R233). -/

/-- `LD HL,SP+e8`, F8 (R233). -/
def exec_ld_hl_spe8 (e : Byte) (s : State) : Result := loadHlSp e s

/-! PUSH rr (R234). -/

/-- `PUSH BC`, C5 (R234). -/
def exec_push_bc (s : State) : Result := pushPair .bc s

/-- `PUSH DE`, D5 (R234). -/
def exec_push_de (s : State) : Result := pushPair .de s

/-- `PUSH HL`, E5 (R234). -/
def exec_push_hl (s : State) : Result := pushPair .hl s

/-- `PUSH AF`, F5 (R234). -/
def exec_push_af (s : State) : Result := pushPair .af s

/-! POP rr (R235). -/

/-- `POP BC`, C1 (R235). -/
def exec_pop_bc (s : State) : Result := popPair .bc s

/-- `POP DE`, D1 (R235). -/
def exec_pop_de (s : State) : Result := popPair .de s

/-- `POP HL`, E1 (R235). -/
def exec_pop_hl (s : State) : Result := popPair .hl s

/-! POP AF (R236). -/

/-- `POP AF`, F1 (R236). -/
def exec_pop_af (s : State) : Result := popPair .af s

end Sys2Proof.Machine
end

