-- ==== Sys2Proof/Machine/Alu8.lean ====
section
/-! DEFINITION. 8-bit arithmetic and logic (43_alu8.md, R252 to R283), over the flag computations of Flags.lean. -/

namespace Sys2Proof.Machine

/-- A and F take an ALU result. -/
def State.setAlu (s : State) (r : Alu8) : State := { s with regs := { s.regs with a := r.res, f := r.f } }

/-- The ALU on a register, 4 cycles. -/
def aluReg (op : Alu) (r : R8) (s : State) : Result :=
  .next ((s.setAlu (Alu8.of op s.regs.a (s.regs.get8 r) s.regs.fc)).charge 4)

/-- The ALU on the byte at HL, 8 cycles. -/
def aluMem (op : Alu) (s : State) : Result :=
  .next ((s.setAlu (Alu8.of op s.regs.a (s.cpuRead s.regs.hl) s.regs.fc)).charge 8)

/-- The ALU on an immediate, 8 cycles. -/
def aluImm (op : Alu) (n : Byte) (s : State) : Result :=
  .next ((s.setAlu (Alu8.of op s.regs.a n s.regs.fc)).charge 8)

/-- INC r, 4 cycles (R276). -/
def incReg (r : R8) (s : State) : Result :=
  let o := inc8 (s.regs.get8 r) s.regs.fc
  .next (((s.setReg8 r o.res).setF o.f).charge 4)

/-- DEC r, 4 cycles (R278). -/
def decReg (r : R8) (s : State) : Result :=
  let o := dec8 (s.regs.get8 r) s.regs.fc
  .next (((s.setReg8 r o.res).setF o.f).charge 4)

/-- INC (HL): one read, one write, 12 cycles (R277, R79). -/
def incMem (s : State) : Result :=
  let o := inc8 (s.cpuRead s.regs.hl) s.regs.fc
  .next (((s.cpuWrite s.regs.hl o.res).setF o.f).charge 12)

/-- DEC (HL), 12 cycles (R279). -/
def decMem (s : State) : Result :=
  let o := dec8 (s.cpuRead s.regs.hl) s.regs.fc
  .next (((s.cpuWrite s.regs.hl o.res).setF o.f).charge 12)

/-- DAA, 4 cycles (R280). -/
def decimalAdjust (s : State) : Result :=
  .next ((s.setAlu (daa8 s.regs.a s.regs.fn s.regs.fh s.regs.fc)).charge 4)

/-- CPL: `A <- A ^ 0xFF`, flags -11-, 4 cycles (R281). -/
def complementA (s : State) : Result :=
  .next ((s.setAlu ⟨s.regs.a ^^^ 0xFF, flagByte s.regs.fz true true s.regs.fc⟩).charge 4)

/-- SCF: flags -001, 4 cycles (R282). -/
def setCarry (s : State) : Result := .next ((s.setF (flagByte s.regs.fz false false true)).charge 4)

/-- CCF: flags -00C with C inverted, 4 cycles (R283). -/
def complementCarry (s : State) : Result := .next ((s.setF (flagByte s.regs.fz false false (!s.regs.fc))).charge 4)

/-! ### The meanings, one per row of the opcode table -/

/-! ADD A r (R252). -/

/-- `ADD A,B`, 80 (R252). -/
def exec_add_a_b (s : State) : Result := aluReg .add .b s

/-- `ADD A,C`, 81 (R252). -/
def exec_add_a_c (s : State) : Result := aluReg .add .c s

/-- `ADD A,D`, 82 (R252). -/
def exec_add_a_d (s : State) : Result := aluReg .add .d s

/-- `ADD A,E`, 83 (R252). -/
def exec_add_a_e (s : State) : Result := aluReg .add .e s

/-- `ADD A,H`, 84 (R252). -/
def exec_add_a_h (s : State) : Result := aluReg .add .h s

/-- `ADD A,L`, 85 (R252). -/
def exec_add_a_l (s : State) : Result := aluReg .add .l s

/-- `ADD A,A`, 87 (R252). -/
def exec_add_a_a (s : State) : Result := aluReg .add .a s

/-! ADD A (HL) (R253). -/

/-- `ADD A,(HL)`, 86 (R253). -/
def exec_add_a_mhl (s : State) : Result := aluMem .add s

/-! ADD A n8 (R254). -/

/-- `ADD A,n8`, C6 (R254). -/
def exec_add_a_n8 (n : Byte) (s : State) : Result := aluImm .add n s

/-! ADC A r (R255). -/

/-- `ADC A,B`, 88 (R255). -/
def exec_adc_a_b (s : State) : Result := aluReg .adc .b s

/-- `ADC A,C`, 89 (R255). -/
def exec_adc_a_c (s : State) : Result := aluReg .adc .c s

/-- `ADC A,D`, 8A (R255). -/
def exec_adc_a_d (s : State) : Result := aluReg .adc .d s

/-- `ADC A,E`, 8B (R255). -/
def exec_adc_a_e (s : State) : Result := aluReg .adc .e s

/-- `ADC A,H`, 8C (R255). -/
def exec_adc_a_h (s : State) : Result := aluReg .adc .h s

/-- `ADC A,L`, 8D (R255). -/
def exec_adc_a_l (s : State) : Result := aluReg .adc .l s

/-- `ADC A,A`, 8F (R255). -/
def exec_adc_a_a (s : State) : Result := aluReg .adc .a s

/-! ADC A (HL) (R256). -/

/-- `ADC A,(HL)`, 8E (R256). -/
def exec_adc_a_mhl (s : State) : Result := aluMem .adc s

/-! ADC A n8 (R257). -/

/-- `ADC A,n8`, CE (R257). -/
def exec_adc_a_n8 (n : Byte) (s : State) : Result := aluImm .adc n s

/-! SUB r (R258). -/

/-- `SUB B`, 90 (R258). -/
def exec_sub_b (s : State) : Result := aluReg .sub .b s

/-- `SUB C`, 91 (R258). -/
def exec_sub_c (s : State) : Result := aluReg .sub .c s

/-- `SUB D`, 92 (R258). -/
def exec_sub_d (s : State) : Result := aluReg .sub .d s

/-- `SUB E`, 93 (R258). -/
def exec_sub_e (s : State) : Result := aluReg .sub .e s

/-- `SUB H`, 94 (R258). -/
def exec_sub_h (s : State) : Result := aluReg .sub .h s

/-- `SUB L`, 95 (R258). -/
def exec_sub_l (s : State) : Result := aluReg .sub .l s

/-- `SUB A`, 97 (R258). -/
def exec_sub_a (s : State) : Result := aluReg .sub .a s

/-! SUB (HL) (R259). -/

/-- `SUB (HL)`, 96 (R259). -/
def exec_sub_mhl (s : State) : Result := aluMem .sub s

/-! SUB n8 (R260). -/

/-- `SUB n8`, D6 (R260). -/
def exec_sub_n8 (n : Byte) (s : State) : Result := aluImm .sub n s

/-! SBC A r (R261). -/

/-- `SBC A,B`, 98 (R261). -/
def exec_sbc_a_b (s : State) : Result := aluReg .sbc .b s

/-- `SBC A,C`, 99 (R261). -/
def exec_sbc_a_c (s : State) : Result := aluReg .sbc .c s

/-- `SBC A,D`, 9A (R261). -/
def exec_sbc_a_d (s : State) : Result := aluReg .sbc .d s

/-- `SBC A,E`, 9B (R261). -/
def exec_sbc_a_e (s : State) : Result := aluReg .sbc .e s

/-- `SBC A,H`, 9C (R261). -/
def exec_sbc_a_h (s : State) : Result := aluReg .sbc .h s

/-- `SBC A,L`, 9D (R261). -/
def exec_sbc_a_l (s : State) : Result := aluReg .sbc .l s

/-- `SBC A,A`, 9F (R261). -/
def exec_sbc_a_a (s : State) : Result := aluReg .sbc .a s

/-! SBC A (HL) (R262). -/

/-- `SBC A,(HL)`, 9E (R262). -/
def exec_sbc_a_mhl (s : State) : Result := aluMem .sbc s

/-! SBC A n8 (R263). -/

/-- `SBC A,n8`, DE (R263). -/
def exec_sbc_a_n8 (n : Byte) (s : State) : Result := aluImm .sbc n s

/-! AND r (R264). -/

/-- `AND B`, A0 (R264). -/
def exec_and_b (s : State) : Result := aluReg .and .b s

/-- `AND C`, A1 (R264). -/
def exec_and_c (s : State) : Result := aluReg .and .c s

/-- `AND D`, A2 (R264). -/
def exec_and_d (s : State) : Result := aluReg .and .d s

/-- `AND E`, A3 (R264). -/
def exec_and_e (s : State) : Result := aluReg .and .e s

/-- `AND H`, A4 (R264). -/
def exec_and_h (s : State) : Result := aluReg .and .h s

/-- `AND L`, A5 (R264). -/
def exec_and_l (s : State) : Result := aluReg .and .l s

/-- `AND A`, A7 (R264). -/
def exec_and_a (s : State) : Result := aluReg .and .a s

/-! AND (HL) (R265). -/

/-- `AND (HL)`, A6 (R265). -/
def exec_and_mhl (s : State) : Result := aluMem .and s

/-! AND n8 (R266). -/

/-- `AND n8`, E6 (R266). -/
def exec_and_n8 (n : Byte) (s : State) : Result := aluImm .and n s

/-! XOR r (R267). -/

/-- `XOR B`, A8 (R267). -/
def exec_xor_b (s : State) : Result := aluReg .xor .b s

/-- `XOR C`, A9 (R267). -/
def exec_xor_c (s : State) : Result := aluReg .xor .c s

/-- `XOR D`, AA (R267). -/
def exec_xor_d (s : State) : Result := aluReg .xor .d s

/-- `XOR E`, AB (R267). -/
def exec_xor_e (s : State) : Result := aluReg .xor .e s

/-- `XOR H`, AC (R267). -/
def exec_xor_h (s : State) : Result := aluReg .xor .h s

/-- `XOR L`, AD (R267). -/
def exec_xor_l (s : State) : Result := aluReg .xor .l s

/-- `XOR A`, AF (R267). -/
def exec_xor_a (s : State) : Result := aluReg .xor .a s

/-! XOR (HL) (R268). -/

/-- `XOR (HL)`, AE (R268). -/
def exec_xor_mhl (s : State) : Result := aluMem .xor s

/-! XOR n8 (R269). -/

/-- `XOR n8`, EE (R269). -/
def exec_xor_n8 (n : Byte) (s : State) : Result := aluImm .xor n s

/-! OR r (R270). -/

/-- `OR B`, B0 (R270). -/
def exec_or_b (s : State) : Result := aluReg .or .b s

/-- `OR C`, B1 (R270). -/
def exec_or_c (s : State) : Result := aluReg .or .c s

/-- `OR D`, B2 (R270). -/
def exec_or_d (s : State) : Result := aluReg .or .d s

/-- `OR E`, B3 (R270). -/
def exec_or_e (s : State) : Result := aluReg .or .e s

/-- `OR H`, B4 (R270). -/
def exec_or_h (s : State) : Result := aluReg .or .h s

/-- `OR L`, B5 (R270). -/
def exec_or_l (s : State) : Result := aluReg .or .l s

/-- `OR A`, B7 (R270). -/
def exec_or_a (s : State) : Result := aluReg .or .a s

/-! OR (HL) (R271). -/

/-- `OR (HL)`, B6 (R271). -/
def exec_or_mhl (s : State) : Result := aluMem .or s

/-! OR n8 (R272). -/

/-- `OR n8`, F6 (R272). -/
def exec_or_n8 (n : Byte) (s : State) : Result := aluImm .or n s

/-! CP r (R273). -/

/-- `CP B`, B8 (R273). -/
def exec_cp_b (s : State) : Result := aluReg .cp .b s

/-- `CP C`, B9 (R273). -/
def exec_cp_c (s : State) : Result := aluReg .cp .c s

/-- `CP D`, BA (R273). -/
def exec_cp_d (s : State) : Result := aluReg .cp .d s

/-- `CP E`, BB (R273). -/
def exec_cp_e (s : State) : Result := aluReg .cp .e s

/-- `CP H`, BC (R273). -/
def exec_cp_h (s : State) : Result := aluReg .cp .h s

/-- `CP L`, BD (R273). -/
def exec_cp_l (s : State) : Result := aluReg .cp .l s

/-- `CP A`, BF (R273). -/
def exec_cp_a (s : State) : Result := aluReg .cp .a s

/-! CP (HL) (R274). -/

/-- `CP (HL)`, BE (R274). -/
def exec_cp_mhl (s : State) : Result := aluMem .cp s

/-! CP n8 (R275). -/

/-- `CP n8`, FE (R275). -/
def exec_cp_n8 (n : Byte) (s : State) : Result := aluImm .cp n s

/-! INC r (R276). -/

/-- `INC B`, 04 (R276). -/
def exec_inc_b (s : State) : Result := incReg .b s

/-- `INC C`, 0C (R276). -/
def exec_inc_c (s : State) : Result := incReg .c s

/-- `INC D`, 14 (R276). -/
def exec_inc_d (s : State) : Result := incReg .d s

/-- `INC E`, 1C (R276). -/
def exec_inc_e (s : State) : Result := incReg .e s

/-- `INC H`, 24 (R276). -/
def exec_inc_h (s : State) : Result := incReg .h s

/-- `INC L`, 2C (R276). -/
def exec_inc_l (s : State) : Result := incReg .l s

/-- `INC A`, 3C (R276). -/
def exec_inc_a (s : State) : Result := incReg .a s

/-! INC (HL) (R277). -/

/-- `INC (HL)`, 34 (R277). -/
def exec_inc_mhl (s : State) : Result := incMem s

/-! DEC r (R278). -/

/-- `DEC B`, 05 (R278). -/
def exec_dec_b (s : State) : Result := decReg .b s

/-- `DEC C`, 0D (R278). -/
def exec_dec_c (s : State) : Result := decReg .c s

/-- `DEC D`, 15 (R278). -/
def exec_dec_d (s : State) : Result := decReg .d s

/-- `DEC E`, 1D (R278). -/
def exec_dec_e (s : State) : Result := decReg .e s

/-- `DEC H`, 25 (R278). -/
def exec_dec_h (s : State) : Result := decReg .h s

/-- `DEC L`, 2D (R278). -/
def exec_dec_l (s : State) : Result := decReg .l s

/-- `DEC A`, 3D (R278). -/
def exec_dec_a (s : State) : Result := decReg .a s

/-! DEC (HL) (R279). -/

/-- `DEC (HL)`, 35 (R279). -/
def exec_dec_mhl (s : State) : Result := decMem s

/-! DAA (R280). -/

/-- `DAA`, 27 (R280). -/
def exec_daa (s : State) : Result := decimalAdjust s

/-! CPL (R281). -/

/-- `CPL`, 2F (R281). -/
def exec_cpl (s : State) : Result := complementA s

/-! SCF (R282). -/

/-- `SCF`, 37 (R282). -/
def exec_scf (s : State) : Result := setCarry s

/-! CCF (R283). -/

/-- `CCF`, 3F (R283). -/
def exec_ccf (s : State) : Result := complementCarry s

end Sys2Proof.Machine
end

