-- ==== Sys2Proof/Machine/Alu16.lean ====
section
/-! DEFINITION. 16-bit arithmetic (44_alu16.md, R290 to R293). -/

namespace Sys2Proof.Machine

/-- ADD HL,rr, 8 cycles (R290). -/
def addHlPair (p : R16) (s : State) : Result :=
  let o := addHl16 s.regs.hl (s.regs.get16 p) s.regs.fz
  .next (((s.setReg16 .hl o.res).setF o.f).charge 8)

/-- INC rr, 8 cycles, no flag (R291). -/
def incPair (p : R16) (s : State) : Result := .next ((s.setReg16 p (s.regs.get16 p + 1)).charge 8)

/-- DEC rr, 8 cycles, no flag (R292). -/
def decPair (p : R16) (s : State) : Result := .next ((s.setReg16 p (s.regs.get16 p - 1)).charge 8)

/-- ADD SP,e8, 16 cycles (R293). -/
def addSp (e : Byte) (s : State) : Result :=
  .next (((s.setSp (addSp8 s.regs.sp e).res).setF (addSp8 s.regs.sp e).f).charge 16)

/-! ### The meanings, one per row of the opcode table -/

/-! ADD HL,rr (R290). -/

/-- `ADD HL,BC`, 09 (R290). -/
def exec_add_hl_bc (s : State) : Result := addHlPair .bc s

/-- `ADD HL,DE`, 19 (R290). -/
def exec_add_hl_de (s : State) : Result := addHlPair .de s

/-- `ADD HL,HL`, 29 (R290). -/
def exec_add_hl_hl (s : State) : Result := addHlPair .hl s

/-- `ADD HL,SP`, 39 (R290). -/
def exec_add_hl_sp (s : State) : Result := addHlPair .sp s

/-! INC rr (R291). -/

/-- `INC BC`, 03 (R291). -/
def exec_inc_bc (s : State) : Result := incPair .bc s

/-- `INC DE`, 13 (R291). -/
def exec_inc_de (s : State) : Result := incPair .de s

/-- `INC HL`, 23 (R291). -/
def exec_inc_hl (s : State) : Result := incPair .hl s

/-- `INC SP`, 33 (R291). -/
def exec_inc_sp (s : State) : Result := incPair .sp s

/-! DEC rr (R292). -/

/-- `DEC BC`, 0B (R292). -/
def exec_dec_bc (s : State) : Result := decPair .bc s

/-- `DEC DE`, 1B (R292). -/
def exec_dec_de (s : State) : Result := decPair .de s

/-- `DEC HL`, 2B (R292). -/
def exec_dec_hl (s : State) : Result := decPair .hl s

/-- `DEC SP`, 3B (R292). -/
def exec_dec_sp (s : State) : Result := decPair .sp s

/-! ADD SP,e8 (R293). -/

/-- `ADD SP,e8`, E8 (R293). -/
def exec_add_sp_e8 (e : Byte) (s : State) : Result := addSp e s

end Sys2Proof.Machine
end

