-- ==== Sys2Proof/Machine/Rotate.lean ====
section
/-! DEFINITION. The rotates of A (45_rotate_shift_bit.md, R300 to R303). -/

namespace Sys2Proof.Machine

/-- A rotate of A: Z, N and H are 0, 4 cycles (R300). -/
def rotateA (op : Rot) (s : State) : Result :=
  let o := Shifted.of op s.regs.a s.regs.fc
  .next ((s.setAlu ⟨o.res, o.flagsA⟩).charge 4)

/-! ### The meanings, one per row of the opcode table -/

/-! RLCA (R300). -/

/-- `RLCA`, 07 (R300). -/
def exec_rlca (s : State) : Result := rotateA .rlc s

/-! RRCA (R301). -/

/-- `RRCA`, 0F (R301). -/
def exec_rrca (s : State) : Result := rotateA .rrc s

/-! RLA (R302). -/

/-- `RLA`, 17 (R302). -/
def exec_rla (s : State) : Result := rotateA .rl s

/-! RRA (R303). -/

/-- `RRA`, 1F (R303). -/
def exec_rra (s : State) : Result := rotateA .rr s

end Sys2Proof.Machine
end

