-- ==== Sys2Proof/Machine/CbShift.lean ====
section
/-! DEFINITION. The prefixed rotates and shifts (45_rotate_shift_bit.md, R304 to R320). -/

namespace Sys2Proof.Machine

/-- A prefixed rotate or shift of a register, 8 cycles (R304). -/
def rotReg (op : Rot) (r : R8) (s : State) : Result :=
  let o := Shifted.of op (s.regs.get8 r) s.regs.fc
  .next (((s.setReg8 r o.res).setF o.flags).charge 8)

/-- A prefixed rotate or shift of the byte at HL: the read, then the write, 16 cycles (R304). -/
def rotMem (op : Rot) (s : State) : Result :=
  let o := Shifted.of op (s.cpuRead s.regs.hl) s.regs.fc
  .next (((s.cpuWrite s.regs.hl o.res).setF o.flags).charge 16)

/-! ### The meanings, one per row of the opcode table -/

/-! RLC r (R305). -/

/-- `RLC B`, CB 00 (R305). -/
def exec_rlc_b (s : State) : Result := rotReg .rlc .b s

/-- `RLC C`, CB 01 (R305). -/
def exec_rlc_c (s : State) : Result := rotReg .rlc .c s

/-- `RLC D`, CB 02 (R305). -/
def exec_rlc_d (s : State) : Result := rotReg .rlc .d s

/-- `RLC E`, CB 03 (R305). -/
def exec_rlc_e (s : State) : Result := rotReg .rlc .e s

/-- `RLC H`, CB 04 (R305). -/
def exec_rlc_h (s : State) : Result := rotReg .rlc .h s

/-- `RLC L`, CB 05 (R305). -/
def exec_rlc_l (s : State) : Result := rotReg .rlc .l s

/-- `RLC A`, CB 07 (R305). -/
def exec_rlc_a (s : State) : Result := rotReg .rlc .a s

/-! RLC (HL) (R306). -/

/-- `RLC (HL)`, CB 06 (R306). -/
def exec_rlc_mhl (s : State) : Result := rotMem .rlc s

/-! RRC r (R307). -/

/-- `RRC B`, CB 08 (R307). -/
def exec_rrc_b (s : State) : Result := rotReg .rrc .b s

/-- `RRC C`, CB 09 (R307). -/
def exec_rrc_c (s : State) : Result := rotReg .rrc .c s

/-- `RRC D`, CB 0A (R307). -/
def exec_rrc_d (s : State) : Result := rotReg .rrc .d s

/-- `RRC E`, CB 0B (R307). -/
def exec_rrc_e (s : State) : Result := rotReg .rrc .e s

/-- `RRC H`, CB 0C (R307). -/
def exec_rrc_h (s : State) : Result := rotReg .rrc .h s

/-- `RRC L`, CB 0D (R307). -/
def exec_rrc_l (s : State) : Result := rotReg .rrc .l s

/-- `RRC A`, CB 0F (R307). -/
def exec_rrc_a (s : State) : Result := rotReg .rrc .a s

/-! RRC (HL) (R308). -/

/-- `RRC (HL)`, CB 0E (R308). -/
def exec_rrc_mhl (s : State) : Result := rotMem .rrc s

/-! RL r (R309). -/

/-- `RL B`, CB 10 (R309). -/
def exec_rl_b (s : State) : Result := rotReg .rl .b s

/-- `RL C`, CB 11 (R309). -/
def exec_rl_c (s : State) : Result := rotReg .rl .c s

/-- `RL D`, CB 12 (R309). -/
def exec_rl_d (s : State) : Result := rotReg .rl .d s

/-- `RL E`, CB 13 (R309). -/
def exec_rl_e (s : State) : Result := rotReg .rl .e s

/-- `RL H`, CB 14 (R309). -/
def exec_rl_h (s : State) : Result := rotReg .rl .h s

/-- `RL L`, CB 15 (R309). -/
def exec_rl_l (s : State) : Result := rotReg .rl .l s

/-- `RL A`, CB 17 (R309). -/
def exec_rl_a (s : State) : Result := rotReg .rl .a s

/-! RL (HL) (R310). -/

/-- `RL (HL)`, CB 16 (R310). -/
def exec_rl_mhl (s : State) : Result := rotMem .rl s

/-! RR r (R311). -/

/-- `RR B`, CB 18 (R311). -/
def exec_rr_b (s : State) : Result := rotReg .rr .b s

/-- `RR C`, CB 19 (R311). -/
def exec_rr_c (s : State) : Result := rotReg .rr .c s

/-- `RR D`, CB 1A (R311). -/
def exec_rr_d (s : State) : Result := rotReg .rr .d s

/-- `RR E`, CB 1B (R311). -/
def exec_rr_e (s : State) : Result := rotReg .rr .e s

/-- `RR H`, CB 1C (R311). -/
def exec_rr_h (s : State) : Result := rotReg .rr .h s

/-- `RR L`, CB 1D (R311). -/
def exec_rr_l (s : State) : Result := rotReg .rr .l s

/-- `RR A`, CB 1F (R311). -/
def exec_rr_a (s : State) : Result := rotReg .rr .a s

/-! RR (HL) (R312). -/

/-- `RR (HL)`, CB 1E (R312). -/
def exec_rr_mhl (s : State) : Result := rotMem .rr s

/-! SLA r (R313). -/

/-- `SLA B`, CB 20 (R313). -/
def exec_sla_b (s : State) : Result := rotReg .sla .b s

/-- `SLA C`, CB 21 (R313). -/
def exec_sla_c (s : State) : Result := rotReg .sla .c s

/-- `SLA D`, CB 22 (R313). -/
def exec_sla_d (s : State) : Result := rotReg .sla .d s

/-- `SLA E`, CB 23 (R313). -/
def exec_sla_e (s : State) : Result := rotReg .sla .e s

/-- `SLA H`, CB 24 (R313). -/
def exec_sla_h (s : State) : Result := rotReg .sla .h s

/-- `SLA L`, CB 25 (R313). -/
def exec_sla_l (s : State) : Result := rotReg .sla .l s

/-- `SLA A`, CB 27 (R313). -/
def exec_sla_a (s : State) : Result := rotReg .sla .a s

/-! SLA (HL) (R314). -/

/-- `SLA (HL)`, CB 26 (R314). -/
def exec_sla_mhl (s : State) : Result := rotMem .sla s

/-! SRA r (R315). -/

/-- `SRA B`, CB 28 (R315). -/
def exec_sra_b (s : State) : Result := rotReg .sra .b s

/-- `SRA C`, CB 29 (R315). -/
def exec_sra_c (s : State) : Result := rotReg .sra .c s

/-- `SRA D`, CB 2A (R315). -/
def exec_sra_d (s : State) : Result := rotReg .sra .d s

/-- `SRA E`, CB 2B (R315). -/
def exec_sra_e (s : State) : Result := rotReg .sra .e s

/-- `SRA H`, CB 2C (R315). -/
def exec_sra_h (s : State) : Result := rotReg .sra .h s

/-- `SRA L`, CB 2D (R315). -/
def exec_sra_l (s : State) : Result := rotReg .sra .l s

/-- `SRA A`, CB 2F (R315). -/
def exec_sra_a (s : State) : Result := rotReg .sra .a s

/-! SRA (HL) (R316). -/

/-- `SRA (HL)`, CB 2E (R316). -/
def exec_sra_mhl (s : State) : Result := rotMem .sra s

/-! SWAP r (R317). -/

/-- `SWAP B`, CB 30 (R317). -/
def exec_swap_b (s : State) : Result := rotReg .swap .b s

/-- `SWAP C`, CB 31 (R317). -/
def exec_swap_c (s : State) : Result := rotReg .swap .c s

/-- `SWAP D`, CB 32 (R317). -/
def exec_swap_d (s : State) : Result := rotReg .swap .d s

/-- `SWAP E`, CB 33 (R317). -/
def exec_swap_e (s : State) : Result := rotReg .swap .e s

/-- `SWAP H`, CB 34 (R317). -/
def exec_swap_h (s : State) : Result := rotReg .swap .h s

/-- `SWAP L`, CB 35 (R317). -/
def exec_swap_l (s : State) : Result := rotReg .swap .l s

/-- `SWAP A`, CB 37 (R317). -/
def exec_swap_a (s : State) : Result := rotReg .swap .a s

/-! SWAP (HL) (R318). -/

/-- `SWAP (HL)`, CB 36 (R318). -/
def exec_swap_mhl (s : State) : Result := rotMem .swap s

/-! SRL r (R319). -/

/-- `SRL B`, CB 38 (R319). -/
def exec_srl_b (s : State) : Result := rotReg .srl .b s

/-- `SRL C`, CB 39 (R319). -/
def exec_srl_c (s : State) : Result := rotReg .srl .c s

/-- `SRL D`, CB 3A (R319). -/
def exec_srl_d (s : State) : Result := rotReg .srl .d s

/-- `SRL E`, CB 3B (R319). -/
def exec_srl_e (s : State) : Result := rotReg .srl .e s

/-- `SRL H`, CB 3C (R319). -/
def exec_srl_h (s : State) : Result := rotReg .srl .h s

/-- `SRL L`, CB 3D (R319). -/
def exec_srl_l (s : State) : Result := rotReg .srl .l s

/-- `SRL A`, CB 3F (R319). -/
def exec_srl_a (s : State) : Result := rotReg .srl .a s

/-! SRL (HL) (R320). -/

/-- `SRL (HL)`, CB 3E (R320). -/
def exec_srl_mhl (s : State) : Result := rotMem .srl s

end Sys2Proof.Machine
end

