-- ==== Sys2Proof/Machine/CbBit.lean ====
section
/-! DEFINITION. BIT, RES and SET (45_rotate_shift_bit.md, R321 to R326). -/

namespace Sys2Proof.Machine

/-- BIT n,r, 8 cycles; no register is written (R321). -/
def bitReg (n : BitNo) (r : R8) (s : State) : Result :=
  .next ((s.setF (bitFlags (s.regs.get8 r) n.toNat s.regs.fc)).charge 8)

/-- BIT n,(HL), 12 cycles; there is no write (R322). -/
def bitMem (n : BitNo) (s : State) : Result :=
  .next ((s.setF (bitFlags (s.cpuRead s.regs.hl) n.toNat s.regs.fc)).charge 12)

/-- RES n,r, 8 cycles (R323). -/
def resReg (n : BitNo) (r : R8) (s : State) : Result :=
  .next ((s.setReg8 r (s.regs.get8 r &&& ~~~bitMask n.toNat)).charge 8)

/-- RES n,(HL), 16 cycles; the write is always performed (R304, R324). -/
def resMem (n : BitNo) (s : State) : Result :=
  .next ((s.cpuWrite s.regs.hl (s.cpuRead s.regs.hl &&& ~~~bitMask n.toNat)).charge 16)

/-- SET n,r, 8 cycles (R325). -/
def setReg (n : BitNo) (r : R8) (s : State) : Result :=
  .next ((s.setReg8 r (s.regs.get8 r ||| bitMask n.toNat)).charge 8)

/-- SET n,(HL), 16 cycles; the write is always performed (R304, R326). -/
def setMem (n : BitNo) (s : State) : Result :=
  .next ((s.cpuWrite s.regs.hl (s.cpuRead s.regs.hl ||| bitMask n.toNat)).charge 16)

/-! ### The meanings, one per row of the opcode table -/

/-! BIT n,r (R321). -/

/-- `BIT 0,B`, CB 40 (R321). -/
def exec_bit_0_b (s : State) : Result := bitReg .n0 .b s

/-- `BIT 0,C`, CB 41 (R321). -/
def exec_bit_0_c (s : State) : Result := bitReg .n0 .c s

/-- `BIT 0,D`, CB 42 (R321). -/
def exec_bit_0_d (s : State) : Result := bitReg .n0 .d s

/-- `BIT 0,E`, CB 43 (R321). -/
def exec_bit_0_e (s : State) : Result := bitReg .n0 .e s

/-- `BIT 0,H`, CB 44 (R321). -/
def exec_bit_0_h (s : State) : Result := bitReg .n0 .h s

/-- `BIT 0,L`, CB 45 (R321). -/
def exec_bit_0_l (s : State) : Result := bitReg .n0 .l s

/-- `BIT 0,A`, CB 47 (R321). -/
def exec_bit_0_a (s : State) : Result := bitReg .n0 .a s

/-- `BIT 1,B`, CB 48 (R321). -/
def exec_bit_1_b (s : State) : Result := bitReg .n1 .b s

/-- `BIT 1,C`, CB 49 (R321). -/
def exec_bit_1_c (s : State) : Result := bitReg .n1 .c s

/-- `BIT 1,D`, CB 4A (R321). -/
def exec_bit_1_d (s : State) : Result := bitReg .n1 .d s

/-- `BIT 1,E`, CB 4B (R321). -/
def exec_bit_1_e (s : State) : Result := bitReg .n1 .e s

/-- `BIT 1,H`, CB 4C (R321). -/
def exec_bit_1_h (s : State) : Result := bitReg .n1 .h s

/-- `BIT 1,L`, CB 4D (R321). -/
def exec_bit_1_l (s : State) : Result := bitReg .n1 .l s

/-- `BIT 1,A`, CB 4F (R321). -/
def exec_bit_1_a (s : State) : Result := bitReg .n1 .a s

/-- `BIT 2,B`, CB 50 (R321). -/
def exec_bit_2_b (s : State) : Result := bitReg .n2 .b s

/-- `BIT 2,C`, CB 51 (R321). -/
def exec_bit_2_c (s : State) : Result := bitReg .n2 .c s

/-- `BIT 2,D`, CB 52 (R321). -/
def exec_bit_2_d (s : State) : Result := bitReg .n2 .d s

/-- `BIT 2,E`, CB 53 (R321). -/
def exec_bit_2_e (s : State) : Result := bitReg .n2 .e s

/-- `BIT 2,H`, CB 54 (R321). -/
def exec_bit_2_h (s : State) : Result := bitReg .n2 .h s

/-- `BIT 2,L`, CB 55 (R321). -/
def exec_bit_2_l (s : State) : Result := bitReg .n2 .l s

/-- `BIT 2,A`, CB 57 (R321). -/
def exec_bit_2_a (s : State) : Result := bitReg .n2 .a s

/-- `BIT 3,B`, CB 58 (R321). -/
def exec_bit_3_b (s : State) : Result := bitReg .n3 .b s

/-- `BIT 3,C`, CB 59 (R321). -/
def exec_bit_3_c (s : State) : Result := bitReg .n3 .c s

/-- `BIT 3,D`, CB 5A (R321). -/
def exec_bit_3_d (s : State) : Result := bitReg .n3 .d s

/-- `BIT 3,E`, CB 5B (R321). -/
def exec_bit_3_e (s : State) : Result := bitReg .n3 .e s

/-- `BIT 3,H`, CB 5C (R321). -/
def exec_bit_3_h (s : State) : Result := bitReg .n3 .h s

/-- `BIT 3,L`, CB 5D (R321). -/
def exec_bit_3_l (s : State) : Result := bitReg .n3 .l s

/-- `BIT 3,A`, CB 5F (R321). -/
def exec_bit_3_a (s : State) : Result := bitReg .n3 .a s

/-- `BIT 4,B`, CB 60 (R321). -/
def exec_bit_4_b (s : State) : Result := bitReg .n4 .b s

/-- `BIT 4,C`, CB 61 (R321). -/
def exec_bit_4_c (s : State) : Result := bitReg .n4 .c s

/-- `BIT 4,D`, CB 62 (R321). -/
def exec_bit_4_d (s : State) : Result := bitReg .n4 .d s

/-- `BIT 4,E`, CB 63 (R321). -/
def exec_bit_4_e (s : State) : Result := bitReg .n4 .e s

/-- `BIT 4,H`, CB 64 (R321). -/
def exec_bit_4_h (s : State) : Result := bitReg .n4 .h s

/-- `BIT 4,L`, CB 65 (R321). -/
def exec_bit_4_l (s : State) : Result := bitReg .n4 .l s

/-- `BIT 4,A`, CB 67 (R321). -/
def exec_bit_4_a (s : State) : Result := bitReg .n4 .a s

/-- `BIT 5,B`, CB 68 (R321). -/
def exec_bit_5_b (s : State) : Result := bitReg .n5 .b s

/-- `BIT 5,C`, CB 69 (R321). -/
def exec_bit_5_c (s : State) : Result := bitReg .n5 .c s

/-- `BIT 5,D`, CB 6A (R321). -/
def exec_bit_5_d (s : State) : Result := bitReg .n5 .d s

/-- `BIT 5,E`, CB 6B (R321). -/
def exec_bit_5_e (s : State) : Result := bitReg .n5 .e s

/-- `BIT 5,H`, CB 6C (R321). -/
def exec_bit_5_h (s : State) : Result := bitReg .n5 .h s

/-- `BIT 5,L`, CB 6D (R321). -/
def exec_bit_5_l (s : State) : Result := bitReg .n5 .l s

/-- `BIT 5,A`, CB 6F (R321). -/
def exec_bit_5_a (s : State) : Result := bitReg .n5 .a s

/-- `BIT 6,B`, CB 70 (R321). -/
def exec_bit_6_b (s : State) : Result := bitReg .n6 .b s

/-- `BIT 6,C`, CB 71 (R321). -/
def exec_bit_6_c (s : State) : Result := bitReg .n6 .c s

/-- `BIT 6,D`, CB 72 (R321). -/
def exec_bit_6_d (s : State) : Result := bitReg .n6 .d s

/-- `BIT 6,E`, CB 73 (R321). -/
def exec_bit_6_e (s : State) : Result := bitReg .n6 .e s

/-- `BIT 6,H`, CB 74 (R321). -/
def exec_bit_6_h (s : State) : Result := bitReg .n6 .h s

/-- `BIT 6,L`, CB 75 (R321). -/
def exec_bit_6_l (s : State) : Result := bitReg .n6 .l s

/-- `BIT 6,A`, CB 77 (R321). -/
def exec_bit_6_a (s : State) : Result := bitReg .n6 .a s

/-- `BIT 7,B`, CB 78 (R321). -/
def exec_bit_7_b (s : State) : Result := bitReg .n7 .b s

/-- `BIT 7,C`, CB 79 (R321). -/
def exec_bit_7_c (s : State) : Result := bitReg .n7 .c s

/-- `BIT 7,D`, CB 7A (R321). -/
def exec_bit_7_d (s : State) : Result := bitReg .n7 .d s

/-- `BIT 7,E`, CB 7B (R321). -/
def exec_bit_7_e (s : State) : Result := bitReg .n7 .e s

/-- `BIT 7,H`, CB 7C (R321). -/
def exec_bit_7_h (s : State) : Result := bitReg .n7 .h s

/-- `BIT 7,L`, CB 7D (R321). -/
def exec_bit_7_l (s : State) : Result := bitReg .n7 .l s

/-- `BIT 7,A`, CB 7F (R321). -/
def exec_bit_7_a (s : State) : Result := bitReg .n7 .a s

/-! BIT n,(HL) (R322). -/

/-- `BIT 0,(HL)`, CB 46 (R322). -/
def exec_bit_0_mhl (s : State) : Result := bitMem .n0 s

/-- `BIT 1,(HL)`, CB 4E (R322). -/
def exec_bit_1_mhl (s : State) : Result := bitMem .n1 s

/-- `BIT 2,(HL)`, CB 56 (R322). -/
def exec_bit_2_mhl (s : State) : Result := bitMem .n2 s

/-- `BIT 3,(HL)`, CB 5E (R322). -/
def exec_bit_3_mhl (s : State) : Result := bitMem .n3 s

/-- `BIT 4,(HL)`, CB 66 (R322). -/
def exec_bit_4_mhl (s : State) : Result := bitMem .n4 s

/-- `BIT 5,(HL)`, CB 6E (R322). -/
def exec_bit_5_mhl (s : State) : Result := bitMem .n5 s

/-- `BIT 6,(HL)`, CB 76 (R322). -/
def exec_bit_6_mhl (s : State) : Result := bitMem .n6 s

/-- `BIT 7,(HL)`, CB 7E (R322). -/
def exec_bit_7_mhl (s : State) : Result := bitMem .n7 s

/-! RES n,r (R323). -/

/-- `RES 0,B`, CB 80 (R323). -/
def exec_res_0_b (s : State) : Result := resReg .n0 .b s

/-- `RES 0,C`, CB 81 (R323). -/
def exec_res_0_c (s : State) : Result := resReg .n0 .c s

/-- `RES 0,D`, CB 82 (R323). -/
def exec_res_0_d (s : State) : Result := resReg .n0 .d s

/-- `RES 0,E`, CB 83 (R323). -/
def exec_res_0_e (s : State) : Result := resReg .n0 .e s

/-- `RES 0,H`, CB 84 (R323). -/
def exec_res_0_h (s : State) : Result := resReg .n0 .h s

/-- `RES 0,L`, CB 85 (R323). -/
def exec_res_0_l (s : State) : Result := resReg .n0 .l s

/-- `RES 0,A`, CB 87 (R323). -/
def exec_res_0_a (s : State) : Result := resReg .n0 .a s

/-- `RES 1,B`, CB 88 (R323). -/
def exec_res_1_b (s : State) : Result := resReg .n1 .b s

/-- `RES 1,C`, CB 89 (R323). -/
def exec_res_1_c (s : State) : Result := resReg .n1 .c s

/-- `RES 1,D`, CB 8A (R323). -/
def exec_res_1_d (s : State) : Result := resReg .n1 .d s

/-- `RES 1,E`, CB 8B (R323). -/
def exec_res_1_e (s : State) : Result := resReg .n1 .e s

/-- `RES 1,H`, CB 8C (R323). -/
def exec_res_1_h (s : State) : Result := resReg .n1 .h s

/-- `RES 1,L`, CB 8D (R323). -/
def exec_res_1_l (s : State) : Result := resReg .n1 .l s

/-- `RES 1,A`, CB 8F (R323). -/
def exec_res_1_a (s : State) : Result := resReg .n1 .a s

/-- `RES 2,B`, CB 90 (R323). -/
def exec_res_2_b (s : State) : Result := resReg .n2 .b s

/-- `RES 2,C`, CB 91 (R323). -/
def exec_res_2_c (s : State) : Result := resReg .n2 .c s

/-- `RES 2,D`, CB 92 (R323). -/
def exec_res_2_d (s : State) : Result := resReg .n2 .d s

/-- `RES 2,E`, CB 93 (R323). -/
def exec_res_2_e (s : State) : Result := resReg .n2 .e s

/-- `RES 2,H`, CB 94 (R323). -/
def exec_res_2_h (s : State) : Result := resReg .n2 .h s

/-- `RES 2,L`, CB 95 (R323). -/
def exec_res_2_l (s : State) : Result := resReg .n2 .l s

/-- `RES 2,A`, CB 97 (R323). -/
def exec_res_2_a (s : State) : Result := resReg .n2 .a s

/-- `RES 3,B`, CB 98 (R323). -/
def exec_res_3_b (s : State) : Result := resReg .n3 .b s

/-- `RES 3,C`, CB 99 (R323). -/
def exec_res_3_c (s : State) : Result := resReg .n3 .c s

/-- `RES 3,D`, CB 9A (R323). -/
def exec_res_3_d (s : State) : Result := resReg .n3 .d s

/-- `RES 3,E`, CB 9B (R323). -/
def exec_res_3_e (s : State) : Result := resReg .n3 .e s

/-- `RES 3,H`, CB 9C (R323). -/
def exec_res_3_h (s : State) : Result := resReg .n3 .h s

/-- `RES 3,L`, CB 9D (R323). -/
def exec_res_3_l (s : State) : Result := resReg .n3 .l s

/-- `RES 3,A`, CB 9F (R323). -/
def exec_res_3_a (s : State) : Result := resReg .n3 .a s

/-- `RES 4,B`, CB A0 (R323). -/
def exec_res_4_b (s : State) : Result := resReg .n4 .b s

/-- `RES 4,C`, CB A1 (R323). -/
def exec_res_4_c (s : State) : Result := resReg .n4 .c s

/-- `RES 4,D`, CB A2 (R323). -/
def exec_res_4_d (s : State) : Result := resReg .n4 .d s

/-- `RES 4,E`, CB A3 (R323). -/
def exec_res_4_e (s : State) : Result := resReg .n4 .e s

/-- `RES 4,H`, CB A4 (R323). -/
def exec_res_4_h (s : State) : Result := resReg .n4 .h s

/-- `RES 4,L`, CB A5 (R323). -/
def exec_res_4_l (s : State) : Result := resReg .n4 .l s

/-- `RES 4,A`, CB A7 (R323). -/
def exec_res_4_a (s : State) : Result := resReg .n4 .a s

/-- `RES 5,B`, CB A8 (R323). -/
def exec_res_5_b (s : State) : Result := resReg .n5 .b s

/-- `RES 5,C`, CB A9 (R323). -/
def exec_res_5_c (s : State) : Result := resReg .n5 .c s

/-- `RES 5,D`, CB AA (R323). -/
def exec_res_5_d (s : State) : Result := resReg .n5 .d s

/-- `RES 5,E`, CB AB (R323). -/
def exec_res_5_e (s : State) : Result := resReg .n5 .e s

/-- `RES 5,H`, CB AC (R323). -/
def exec_res_5_h (s : State) : Result := resReg .n5 .h s

/-- `RES 5,L`, CB AD (R323). -/
def exec_res_5_l (s : State) : Result := resReg .n5 .l s

/-- `RES 5,A`, CB AF (R323). -/
def exec_res_5_a (s : State) : Result := resReg .n5 .a s

/-- `RES 6,B`, CB B0 (R323). -/
def exec_res_6_b (s : State) : Result := resReg .n6 .b s

/-- `RES 6,C`, CB B1 (R323). -/
def exec_res_6_c (s : State) : Result := resReg .n6 .c s

/-- `RES 6,D`, CB B2 (R323). -/
def exec_res_6_d (s : State) : Result := resReg .n6 .d s

/-- `RES 6,E`, CB B3 (R323). -/
def exec_res_6_e (s : State) : Result := resReg .n6 .e s

/-- `RES 6,H`, CB B4 (R323). -/
def exec_res_6_h (s : State) : Result := resReg .n6 .h s

/-- `RES 6,L`, CB B5 (R323). -/
def exec_res_6_l (s : State) : Result := resReg .n6 .l s

/-- `RES 6,A`, CB B7 (R323). -/
def exec_res_6_a (s : State) : Result := resReg .n6 .a s

/-- `RES 7,B`, CB B8 (R323). -/
def exec_res_7_b (s : State) : Result := resReg .n7 .b s

/-- `RES 7,C`, CB B9 (R323). -/
def exec_res_7_c (s : State) : Result := resReg .n7 .c s

/-- `RES 7,D`, CB BA (R323). -/
def exec_res_7_d (s : State) : Result := resReg .n7 .d s

/-- `RES 7,E`, CB BB (R323). -/
def exec_res_7_e (s : State) : Result := resReg .n7 .e s

/-- `RES 7,H`, CB BC (R323). -/
def exec_res_7_h (s : State) : Result := resReg .n7 .h s

/-- `RES 7,L`, CB BD (R323). -/
def exec_res_7_l (s : State) : Result := resReg .n7 .l s

/-- `RES 7,A`, CB BF (R323). -/
def exec_res_7_a (s : State) : Result := resReg .n7 .a s

/-! RES n,(HL) (R324). -/

/-- `RES 0,(HL)`, CB 86 (R324). -/
def exec_res_0_mhl (s : State) : Result := resMem .n0 s

/-- `RES 1,(HL)`, CB 8E (R324). -/
def exec_res_1_mhl (s : State) : Result := resMem .n1 s

/-- `RES 2,(HL)`, CB 96 (R324). -/
def exec_res_2_mhl (s : State) : Result := resMem .n2 s

/-- `RES 3,(HL)`, CB 9E (R324). -/
def exec_res_3_mhl (s : State) : Result := resMem .n3 s

/-- `RES 4,(HL)`, CB A6 (R324). -/
def exec_res_4_mhl (s : State) : Result := resMem .n4 s

/-- `RES 5,(HL)`, CB AE (R324). -/
def exec_res_5_mhl (s : State) : Result := resMem .n5 s

/-- `RES 6,(HL)`, CB B6 (R324). -/
def exec_res_6_mhl (s : State) : Result := resMem .n6 s

/-- `RES 7,(HL)`, CB BE (R324). -/
def exec_res_7_mhl (s : State) : Result := resMem .n7 s

/-! SET n,r (R325). -/

/-- `SET 0,B`, CB C0 (R325). -/
def exec_set_0_b (s : State) : Result := setReg .n0 .b s

/-- `SET 0,C`, CB C1 (R325). -/
def exec_set_0_c (s : State) : Result := setReg .n0 .c s

/-- `SET 0,D`, CB C2 (R325). -/
def exec_set_0_d (s : State) : Result := setReg .n0 .d s

/-- `SET 0,E`, CB C3 (R325). -/
def exec_set_0_e (s : State) : Result := setReg .n0 .e s

/-- `SET 0,H`, CB C4 (R325). -/
def exec_set_0_h (s : State) : Result := setReg .n0 .h s

/-- `SET 0,L`, CB C5 (R325). -/
def exec_set_0_l (s : State) : Result := setReg .n0 .l s

/-- `SET 0,A`, CB C7 (R325). -/
def exec_set_0_a (s : State) : Result := setReg .n0 .a s

/-- `SET 1,B`, CB C8 (R325). -/
def exec_set_1_b (s : State) : Result := setReg .n1 .b s

/-- `SET 1,C`, CB C9 (R325). -/
def exec_set_1_c (s : State) : Result := setReg .n1 .c s

/-- `SET 1,D`, CB CA (R325). -/
def exec_set_1_d (s : State) : Result := setReg .n1 .d s

/-- `SET 1,E`, CB CB (R325). -/
def exec_set_1_e (s : State) : Result := setReg .n1 .e s

/-- `SET 1,H`, CB CC (R325). -/
def exec_set_1_h (s : State) : Result := setReg .n1 .h s

/-- `SET 1,L`, CB CD (R325). -/
def exec_set_1_l (s : State) : Result := setReg .n1 .l s

/-- `SET 1,A`, CB CF (R325). -/
def exec_set_1_a (s : State) : Result := setReg .n1 .a s

/-- `SET 2,B`, CB D0 (R325). -/
def exec_set_2_b (s : State) : Result := setReg .n2 .b s

/-- `SET 2,C`, CB D1 (R325). -/
def exec_set_2_c (s : State) : Result := setReg .n2 .c s

/-- `SET 2,D`, CB D2 (R325). -/
def exec_set_2_d (s : State) : Result := setReg .n2 .d s

/-- `SET 2,E`, CB D3 (R325). -/
def exec_set_2_e (s : State) : Result := setReg .n2 .e s

/-- `SET 2,H`, CB D4 (R325). -/
def exec_set_2_h (s : State) : Result := setReg .n2 .h s

/-- `SET 2,L`, CB D5 (R325). -/
def exec_set_2_l (s : State) : Result := setReg .n2 .l s

/-- `SET 2,A`, CB D7 (R325). -/
def exec_set_2_a (s : State) : Result := setReg .n2 .a s

/-- `SET 3,B`, CB D8 (R325). -/
def exec_set_3_b (s : State) : Result := setReg .n3 .b s

/-- `SET 3,C`, CB D9 (R325). -/
def exec_set_3_c (s : State) : Result := setReg .n3 .c s

/-- `SET 3,D`, CB DA (R325). -/
def exec_set_3_d (s : State) : Result := setReg .n3 .d s

/-- `SET 3,E`, CB DB (R325). -/
def exec_set_3_e (s : State) : Result := setReg .n3 .e s

/-- `SET 3,H`, CB DC (R325). -/
def exec_set_3_h (s : State) : Result := setReg .n3 .h s

/-- `SET 3,L`, CB DD (R325). -/
def exec_set_3_l (s : State) : Result := setReg .n3 .l s

/-- `SET 3,A`, CB DF (R325). -/
def exec_set_3_a (s : State) : Result := setReg .n3 .a s

/-- `SET 4,B`, CB E0 (R325). -/
def exec_set_4_b (s : State) : Result := setReg .n4 .b s

/-- `SET 4,C`, CB E1 (R325). -/
def exec_set_4_c (s : State) : Result := setReg .n4 .c s

/-- `SET 4,D`, CB E2 (R325). -/
def exec_set_4_d (s : State) : Result := setReg .n4 .d s

/-- `SET 4,E`, CB E3 (R325). -/
def exec_set_4_e (s : State) : Result := setReg .n4 .e s

/-- `SET 4,H`, CB E4 (R325). -/
def exec_set_4_h (s : State) : Result := setReg .n4 .h s

/-- `SET 4,L`, CB E5 (R325). -/
def exec_set_4_l (s : State) : Result := setReg .n4 .l s

/-- `SET 4,A`, CB E7 (R325). -/
def exec_set_4_a (s : State) : Result := setReg .n4 .a s

/-- `SET 5,B`, CB E8 (R325). -/
def exec_set_5_b (s : State) : Result := setReg .n5 .b s

/-- `SET 5,C`, CB E9 (R325). -/
def exec_set_5_c (s : State) : Result := setReg .n5 .c s

/-- `SET 5,D`, CB EA (R325). -/
def exec_set_5_d (s : State) : Result := setReg .n5 .d s

/-- `SET 5,E`, CB EB (R325). -/
def exec_set_5_e (s : State) : Result := setReg .n5 .e s

/-- `SET 5,H`, CB EC (R325). -/
def exec_set_5_h (s : State) : Result := setReg .n5 .h s

/-- `SET 5,L`, CB ED (R325). -/
def exec_set_5_l (s : State) : Result := setReg .n5 .l s

/-- `SET 5,A`, CB EF (R325). -/
def exec_set_5_a (s : State) : Result := setReg .n5 .a s

/-- `SET 6,B`, CB F0 (R325). -/
def exec_set_6_b (s : State) : Result := setReg .n6 .b s

/-- `SET 6,C`, CB F1 (R325). -/
def exec_set_6_c (s : State) : Result := setReg .n6 .c s

/-- `SET 6,D`, CB F2 (R325). -/
def exec_set_6_d (s : State) : Result := setReg .n6 .d s

/-- `SET 6,E`, CB F3 (R325). -/
def exec_set_6_e (s : State) : Result := setReg .n6 .e s

/-- `SET 6,H`, CB F4 (R325). -/
def exec_set_6_h (s : State) : Result := setReg .n6 .h s

/-- `SET 6,L`, CB F5 (R325). -/
def exec_set_6_l (s : State) : Result := setReg .n6 .l s

/-- `SET 6,A`, CB F7 (R325). -/
def exec_set_6_a (s : State) : Result := setReg .n6 .a s

/-- `SET 7,B`, CB F8 (R325). -/
def exec_set_7_b (s : State) : Result := setReg .n7 .b s

/-- `SET 7,C`, CB F9 (R325). -/
def exec_set_7_c (s : State) : Result := setReg .n7 .c s

/-- `SET 7,D`, CB FA (R325). -/
def exec_set_7_d (s : State) : Result := setReg .n7 .d s

/-- `SET 7,E`, CB FB (R325). -/
def exec_set_7_e (s : State) : Result := setReg .n7 .e s

/-- `SET 7,H`, CB FC (R325). -/
def exec_set_7_h (s : State) : Result := setReg .n7 .h s

/-- `SET 7,L`, CB FD (R325). -/
def exec_set_7_l (s : State) : Result := setReg .n7 .l s

/-- `SET 7,A`, CB FF (R325). -/
def exec_set_7_a (s : State) : Result := setReg .n7 .a s

/-! SET n,(HL) (R326). -/

/-- `SET 0,(HL)`, CB C6 (R326). -/
def exec_set_0_mhl (s : State) : Result := setMem .n0 s

/-- `SET 1,(HL)`, CB CE (R326). -/
def exec_set_1_mhl (s : State) : Result := setMem .n1 s

/-- `SET 2,(HL)`, CB D6 (R326). -/
def exec_set_2_mhl (s : State) : Result := setMem .n2 s

/-- `SET 3,(HL)`, CB DE (R326). -/
def exec_set_3_mhl (s : State) : Result := setMem .n3 s

/-- `SET 4,(HL)`, CB E6 (R326). -/
def exec_set_4_mhl (s : State) : Result := setMem .n4 s

/-- `SET 5,(HL)`, CB EE (R326). -/
def exec_set_5_mhl (s : State) : Result := setMem .n5 s

/-- `SET 6,(HL)`, CB F6 (R326). -/
def exec_set_6_mhl (s : State) : Result := setMem .n6 s

/-- `SET 7,(HL)`, CB FE (R326). -/
def exec_set_7_mhl (s : State) : Result := setMem .n7 s

end Sys2Proof.Machine
end

