-- ==== Sys2Proof/Machine/Control.lean ====
section
/-! DEFINITION. Jumps, calls, returns and restarts (46_control_transfer.md, R331 to R341). The PC already holds PCnext (R10). -/

namespace Sys2Proof.Machine

/-- `PC <- target` (R331, R333, R334). -/
def jump (target : Word) (cost : Nat) (s : State) : Result := .next ((s.setPc target).charge cost)

/-- A conditional jump; not taken, the PC stays PCnext (R332, R335). -/
def jumpIf (cc : Cond) (target : Word) (taken notTaken : Nat) (s : State) : Result :=
  if s.regs.cond cc then jump target taken s else .next (s.charge notTaken)

/-- `Push16(PCnext); PC <- target` (R336, R341). -/
def call (target : Word) (cost : Nat) (s : State) : Result :=
  .next (((s.push16 s.regs.pc).setPc target).charge cost)

/-- CALL cc,a16: 24 cycles taken; not taken, 12 cycles and no stack access (R337). -/
def callIf (cc : Cond) (target : Word) (s : State) : Result :=
  if s.regs.cond cc then call target 24 s else .next (s.charge 12)

/-- `PC <- Pop16()` (R338). -/
def ret (cost : Nat) (s : State) : Result := .next (s.popPc.charge cost)

/-- RET cc: 20 cycles taken; not taken, 8 cycles and no stack access (R339). -/
def retIf (cc : Cond) (s : State) : Result :=
  if s.regs.cond cc then ret 20 s else .next (s.charge 8)

/-- RETI, 16 cycles (R340). -/
def retInterrupt (s : State) : Result := .next (s.returnFromInterrupt.charge 16)

/-! ### The meanings, one per row of the opcode table -/

/-! JP a16 (R331). -/

/-- `JP a16`, C3 (R331). -/
def exec_jp_a16 (n : Word) (s : State) : Result := jump n 16 s

/-! JP cc,a16 (R332). -/

/-- `JP NZ,a16`, C2 (R332). -/
def exec_jp_nz_a16 (n : Word) (s : State) : Result := jumpIf .nz n 16 12 s

/-- `JP Z,a16`, CA (R332). -/
def exec_jp_z_a16 (n : Word) (s : State) : Result := jumpIf .z n 16 12 s

/-- `JP NC,a16`, D2 (R332). -/
def exec_jp_nc_a16 (n : Word) (s : State) : Result := jumpIf .nc n 16 12 s

/-- `JP C,a16`, DA (R332). -/
def exec_jp_c_a16 (n : Word) (s : State) : Result := jumpIf .c n 16 12 s

/-! JP HL (R333). -/

/-- `JP HL`, E9 (R333). -/
def exec_jp_hl (s : State) : Result := jump s.regs.hl 4 s

/-! JR e8 (R334). -/

/-- `JR e8`, 18 (R334). -/
def exec_jr_e8 (e : Byte) (s : State) : Result := jump (s.regs.pc + sext8 e) 12 s

/-! JR cc,e8 (R335). -/

/-- `JR NZ,e8`, 20 (R335). -/
def exec_jr_nz_e8 (e : Byte) (s : State) : Result := jumpIf .nz (s.regs.pc + sext8 e) 12 8 s

/-- `JR Z,e8`, 28 (R335). -/
def exec_jr_z_e8 (e : Byte) (s : State) : Result := jumpIf .z (s.regs.pc + sext8 e) 12 8 s

/-- `JR NC,e8`, 30 (R335). -/
def exec_jr_nc_e8 (e : Byte) (s : State) : Result := jumpIf .nc (s.regs.pc + sext8 e) 12 8 s

/-- `JR C,e8`, 38 (R335). -/
def exec_jr_c_e8 (e : Byte) (s : State) : Result := jumpIf .c (s.regs.pc + sext8 e) 12 8 s

/-! CALL a16 (R336). -/

/-- `CALL a16`, CD (R336). -/
def exec_call_a16 (n : Word) (s : State) : Result := call n 24 s

/-! CALL cc,a16 (R337). -/

/-- `CALL NZ,a16`, C4 (R337). -/
def exec_call_nz_a16 (n : Word) (s : State) : Result := callIf .nz n s

/-- `CALL Z,a16`, CC (R337). -/
def exec_call_z_a16 (n : Word) (s : State) : Result := callIf .z n s

/-- `CALL NC,a16`, D4 (R337). -/
def exec_call_nc_a16 (n : Word) (s : State) : Result := callIf .nc n s

/-- `CALL C,a16`, DC (R337). -/
def exec_call_c_a16 (n : Word) (s : State) : Result := callIf .c n s

/-! RET (R338). -/

/-- `RET`, C9 (R338). -/
def exec_ret (s : State) : Result := ret 16 s

/-! RET cc (R339). -/

/-- `RET NZ`, C0 (R339). -/
def exec_ret_nz (s : State) : Result := retIf .nz s

/-- `RET Z`, C8 (R339). -/
def exec_ret_z (s : State) : Result := retIf .z s

/-- `RET NC`, D0 (R339). -/
def exec_ret_nc (s : State) : Result := retIf .nc s

/-- `RET C`, D8 (R339). -/
def exec_ret_c (s : State) : Result := retIf .c s

/-! RETI (R340). -/

/-- `RETI`, D9 (R340). -/
def exec_reti (s : State) : Result := retInterrupt s

/-! RST n (R341). -/

/-- `RST 00H`, C7 (R341). -/
def exec_rst_00h (s : State) : Result := call (RstNo.target .t00) 16 s

/-- `RST 08H`, CF (R341). -/
def exec_rst_08h (s : State) : Result := call (RstNo.target .t08) 16 s

/-- `RST 10H`, D7 (R341). -/
def exec_rst_10h (s : State) : Result := call (RstNo.target .t10) 16 s

/-- `RST 18H`, DF (R341). -/
def exec_rst_18h (s : State) : Result := call (RstNo.target .t18) 16 s

/-- `RST 20H`, E7 (R341). -/
def exec_rst_20h (s : State) : Result := call (RstNo.target .t20) 16 s

/-- `RST 28H`, EF (R341). -/
def exec_rst_28h (s : State) : Result := call (RstNo.target .t28) 16 s

/-- `RST 30H`, F7 (R341). -/
def exec_rst_30h (s : State) : Result := call (RstNo.target .t30) 16 s

/-- `RST 38H`, FF (R341). -/
def exec_rst_38h (s : State) : Result := call (RstNo.target .t38) 16 s

end Sys2Proof.Machine
end

