-- ==== Sys2Proof/Machine/System.lean ====
section
/-! DEFINITION. System and control instructions (47_system.md, R360 to R366). -/

namespace Sys2Proof.Machine

/-- NOP, 4 cycles (R360). -/
def noOperation (s : State) : Result := .next (s.charge 4)

/-- HALT, 4 cycles (R361): with IME 0, an enabled interrupt already pending and HALT_BUG true, the CPU does not halt and
the next fetch repeats a byte. -/
def halt (s : State) : Result :=
  if !s.ime && s.pending != 0 && s.params.haltBug then .next (({ s with haltBug := true } : State).charge 4)
  else .next (({ s with runState := .halted } : State).charge 4)

/-- STOP, 4 cycles (R362): nothing, or under `halt_forever` the Halted state. Its operand byte is ignored. -/
def stop (s : State) : Result :=
  match s.params.stopPolicy with
  | .nop => .next (s.charge 4)
  | .haltForever => .next (({ s with runState := .halted } : State).charge 4)

/-- DI, 4 cycles (R363). -/
def disableInterrupts (s : State) : Result := .next (({ s with ime := false, eiPending := false } : State).charge 4)

/-- EI, 4 cycles (R364): only the latch; the next instruction's Update moves it into IME (R150). -/
def enableInterrupts (s : State) : Result := .next (({ s with eiPending := true } : State).charge 4)

/-- An unassigned opcode, 4 cycles (R366): nothing, or under `lock` the Locked state. -/
def unassigned (s : State) : Result :=
  match s.params.illegalPolicy with
  | .nop => .next (s.charge 4)
  | .lock => .next (({ s with runState := .locked } : State).charge 4)

/-- PREFIX CB (R365): the prefixed table's entry for `b`, run by its fields x, y and z (R138, R304). That it is what `exec`
does with CB[b] is a statement of the package. -/
def runPrefixed (b : Byte) (s : State) : Result :=
  match (fieldX b).toNat, R8.ofField (fieldZ b) with
  | 0, some r => rotReg (Rot.ofField (fieldY b)) r s
  | 0, none => rotMem (Rot.ofField (fieldY b)) s
  | 1, some r => bitReg (BitNo.ofField (fieldY b)) r s
  | 1, none => bitMem (BitNo.ofField (fieldY b)) s
  | 2, some r => resReg (BitNo.ofField (fieldY b)) r s
  | 2, none => resMem (BitNo.ofField (fieldY b)) s
  | _, some r => setReg (BitNo.ofField (fieldY b)) r s
  | _, none => setMem (BitNo.ofField (fieldY b)) s

/-! ### The meanings, one per row of the opcode table -/

/-! NOP (R360). -/

/-- `NOP`, 00 (R360). -/
def exec_nop (s : State) : Result := noOperation s

/-! HALT (R361). -/

/-- `HALT`, 76 (R361). -/
def exec_halt (s : State) : Result := halt s

/-! STOP n8 (R362). -/

/-- `STOP n8`, 10 (R362). -/
def exec_stop_n8 (_n : Byte) (s : State) : Result := stop s

/-! DI (R363). -/

/-- `DI`, F3 (R363). -/
def exec_di (s : State) : Result := disableInterrupts s

/-! EI (R364). -/

/-- `EI`, FB (R364). -/
def exec_ei (s : State) : Result := enableInterrupts s

/-! PREFIX CB (R365). -/

/-- `PREFIX CB`, CB (R365). -/
def exec_prefix_cb (b : Byte) (s : State) : Result := runPrefixed b s

/-! The unassigned opcodes (R366). -/

/-- `ILLEGAL_D3`, D3 (R366). -/
def exec_illegal_d3 (s : State) : Result := unassigned s

/-- `ILLEGAL_DB`, DB (R366). -/
def exec_illegal_db (s : State) : Result := unassigned s

/-- `ILLEGAL_DD`, DD (R366). -/
def exec_illegal_dd (s : State) : Result := unassigned s

/-- `ILLEGAL_E3`, E3 (R366). -/
def exec_illegal_e3 (s : State) : Result := unassigned s

/-- `ILLEGAL_E4`, E4 (R366). -/
def exec_illegal_e4 (s : State) : Result := unassigned s

/-- `ILLEGAL_EB`, EB (R366). -/
def exec_illegal_eb (s : State) : Result := unassigned s

/-- `ILLEGAL_EC`, EC (R366). -/
def exec_illegal_ec (s : State) : Result := unassigned s

/-- `ILLEGAL_ED`, ED (R366). -/
def exec_illegal_ed (s : State) : Result := unassigned s

/-- `ILLEGAL_F4`, F4 (R366). -/
def exec_illegal_f4 (s : State) : Result := unassigned s

/-- `ILLEGAL_FC`, FC (R366). -/
def exec_illegal_fc (s : State) : Result := unassigned s

/-- `ILLEGAL_FD`, FD (R366). -/
def exec_illegal_fd (s : State) : Result := unassigned s

end Sys2Proof.Machine
end

