-- ==== Sys2Proof/Machine/Update.lean ====
section
/-! DEFINITION. `Update()`, one step of the CPU (R150), and the placing of an instruction where it fetches next. -/

namespace Sys2Proof.Machine

/-- The devices catch up with an executed instruction: `Advance(n)` for the cost n its rule charged (R150, R154). -/
def State.catchUp (t : State) (before : Nat) : State := t.advance (t.cycles - before)

/-- One instruction (R150): fetch, decode, execute, then the device advance. -/
def executeOne (s : State) : Result :=
  match exec s.fetch.1 s.fetch.2 with
  | .next t => .next (t.catchUp s.fetch.2.cycles)
  | .fault r => .fault r
  | .refused r => .refused r

/-- `Update()` (R150): nothing while paused; a 4-cycle step while locked or halted, a pending enabled interrupt waking the
halted CPU; an interrupt dispatch; a pause at a breakpoint; or one instruction. -/
def update (s : State) : Result :=
  match s.runState with
  | .breakpointPaused => .next s
  | .locked => .next (s.spend 4)
  | .halted => .next ((if s.pending != 0 then { s with runState := .running } else s).spend 4)
  | .running =>
    if s.ime && s.pending != 0 then .next ((s.dispatch (lowestSource s.pending)).spend 20)
    else if s.breakpointHit then .next { s with runState := .breakpointPaused }
    else executeOne s.beginInstr

/-! ### Placing an instruction (the host's withFetchWord; log entry 7) -/

/-- The image with a byte at an offset, extended to hold it. -/
def Cartridge.placeByte (c : Cartridge) (off : Nat) (v : Byte) : Cartridge :=
  { c with romLen := max c.romLen (off + 1), rom := c.rom.write off v }

/-- The ROM image with a byte at the offset an address selects now; with no cartridge, a ROM-only image that ends there. -/
def State.placeRom (s : State) (a : Word) (v : Byte) : State :=
  match s.cart with
  | none =>
    { s with cart := some ⟨.romOnly, a.toNat + 1, Memory.write [] a.toNat v, 0, 0⟩ }
  | some c =>
    { s with cart := some (c.placeByte (c.romOffset s.mbc a) v) }

/-- The boot image with a byte at an address. -/
def State.placeBoot (s : State) (a : Word) (v : Byte) : State :=
  match s.params.bootMode with
  | .skip => s
  | .bootRom image => { s with params := { s.params with bootMode := .bootRom (image.write a.toNat v) } }

/-- Put a byte where a read of `a` finds it: in the image, the RAM or the I/O storage behind the address. An address with no
storage behind it is left alone. -/
def State.placeByte (s : State) (a : Word) (v : Byte) : State :=
  match regionOf a with
  | .romLow => if s.bootOverlay a then s.placeBoot a v else s.placeRom a v
  | .romHigh => s.placeRom a v
  | .vram => s.store a.toNat v
  | .cartRam => s.cartRamWrite a v
  | .wram => s.store a.toNat v
  | .echo => s.store (a.toNat - 0x2000) v
  | .oam => s.store a.toNat v
  | .unusable => s
  | .io =>
    match ioRegAt a with
    | .audio => s.store a.toNat v
    | .unnamed => s.store a.toNat v
    | _ => s
  | .hram => s.store a.toNat v
  | .ie => { s with ie := v }

/-- The state whose next Update fetches an instruction: running, no HALT-bug repeat, no dispatch due, and a breakpoint at the
PC skipped once. At `State.reset` all of this holds already. -/
def State.readyToFetch (s : State) : State :=
  { s with
    runState := .running
    haltBug := false
    bpResume := s.bpResume || s.breakpointHit
    ifBits := if s.ime && s.pending != 0 then s.ifBits &&& ~~~s.ie.setWidth 5 else s.ifBits }

/-- Bytes placed at consecutive addresses, modulo 2^16. -/
def State.placeBytes : State → Word → List Byte → State
  | s, _, [] => s
  | s, a, v :: rest => State.placeBytes (s.placeByte a v) (a + 1) rest

end Sys2Proof.Machine
end

