-- ==== Sys2Proof/Machine/Step.lean ====
section
/-! DEFINITION. The step of the machine and the placing of the instruction it runs next. -/

namespace Sys2Proof.Machine

/-- One step is one `Update()` (R150). -/
def step (s : State) : Host.Outcome State Fault Refusal := update s

/-- The state with a table word's instruction where `step` fetches next: at the PC (log entry 7). -/
def State.withFetchWord (s : State) (nbits w : Nat) : State :=
  s.readyToFetch.placeBytes s.regs.pc (tableBytes nbits w)

end Sys2Proof.Machine
end

