-- ==== Sys2Proof/Machine/Disasm.lean ====
section
/-! DEFINITION. The disassembler (R160 to R165): a pure function of the bus contents and a range. -/

/-- `Format(entry, ops)`, half of DISASM_FORMAT (R5, R161, R163, D37), which is OPEN: a record's mnemonic text, from the decoded
entry and its operand bytes, and from the record's address, without which the suggested form of R163 (an `e8` as its absolute
target) could not be written. It has no body (log entry 4). -/
opaque Sys2Proof.Config.disasmFormat (a : Nat) (entry : Sys2Proof.Instr) (ops : List Sys2Proof.Byte) : String

namespace Sys2Proof.Machine

/-- A disassembly record (R161). -/
structure DisInstr where
  addr : Nat
  opcode : Byte
  operands : List Byte
  text : String
  hex : String
  deriving DecidableEq, Repr

/-- The record's length in bytes, `1 + skip` (R161). -/
def DisInstr.length (r : DisInstr) : Nat := 1 + r.operands.length

/-- The operand bytes after the opcode at an address (R161). -/
def State.operandBytes (s : State) (a n : Nat) : List Byte :=
  (List.range n).map fun i => s.busRead (BitVec.ofNat 16 (a + 1 + i))

/-- `decode(op, ops[0])` with the operands filled in (R143, R161): the entry the CPU's fetch decodes (`decodeOp`), BASE[op] or,
after 0xCB, CB[ops[0]]. An operand byte the entry does not have is not read. -/
def entryOf (op : Byte) (ops : List Byte) : Instr := decodeOp op (ops.getD 0 0) (ops.getD 1 0)

/-- The entry of the instruction at an address (R161). -/
def State.disEntry (s : State) (a : Nat) : Instr :=
  let op := s.busRead (BitVec.ofNat 16 a)
  entryOf op (s.operandBytes a (skip op))

/-- The record at an address (R161). Its two texts are `Format(entry, ops)` and `Hex(op, ops)`, the open `DISASM_FORMAT` (R163,
log entry 4). -/
def State.disRecord (s : State) (a : Nat) : DisInstr :=
  let op := s.busRead (BitVec.ofNat 16 a)
  let ops := s.operandBytes a (skip op)
  { addr := a, opcode := op, operands := ops,
    text := Config.disasmFormat a (s.disEntry a) ops, hex := Config.disasmHex op ops }

/-- The walk from `a` (R161), which stops before an instruction that would pass `last` (R162). Each record has at least one
byte, so as many turns as the range has bytes are enough. -/
def State.disWalk (s : State) (last : Nat) : Nat → Nat → List DisInstr
  | 0, _ => []
  | turns + 1, a =>
    if a < last then
      let r := s.disRecord a
      if last < a + r.length then [] else r :: State.disWalk s last turns (a + r.length)
    else []

/-- `Disassemble(start, end)`, for `0 ≤ start ≤ end ≤ 0x10000` (R160). -/
def State.disassemble (s : State) (first last : Nat) : List DisInstr := s.disWalk last (last - first) first

/-- The default range (R160). -/
def State.disassembleDefault (s : State) : List DisInstr := s.disassemble Config.disasmStart Config.disasmEnd

end Sys2Proof.Machine
end

