-- ==== Sys2Proof/Machine/Lifecycle.lean ====
section
/-! DEFINITION. The lifecycle operations of the host (R485, R90 to R100, R471, R480, R481, R520, R523), each of them between
two Updates. A typed failure (R486) is an `Except`, and it returns no state, so nothing changes. -/

namespace Sys2Proof.Machine

/-- The load failures (R486). -/
inductive LoadError where
  /-- The file is missing or cannot be read (R90). -/
  | unreadable
  /-- The header type, or its RAM-size code, is not supported (R91, R100). -/
  | unsupportedCartridge
  /-- The image is too large (R93, R94). -/
  | tooLarge
  deriving DecidableEq, Repr

/-- The control failures (R486). -/
inductive ControlError where
  /-- Pause, Resume, Step or Stop outside its precondition (R485). -/
  | notRunning
  /-- Start or ContentHash with no cartridge loaded (R485). -/
  | noCartridge
  /-- RemoveBreakpoint of an index outside the sequence (R481). -/
  | breakpointIndexOutOfRange
  deriving DecidableEq, Repr

/-! ### Launch and reset -/

/-- Power-on under a launch's parameters (R522): construction followed by Reset. -/
def State.powerOn (params : Params) : State := State.resetKeeping params none [] HostSide.initial

/-- BOOT_MODE `boot_rom` from an image, which must be 256 bytes (R523, 93_implementation_defined.md I15). -/
def BootMode.ofImage (image : List Byte) : Option BootMode :=
  if image.length = 256 then some (.bootRom (Memory.ofBytes 0 image)) else none

/-- `Reset()` (R520): what it keeps is passed on, the rest is a constant. -/
def State.hostReset (s : State) : State := State.resetKeeping s.params s.cart s.breakpoints s.host

/-! ### Loading a cartridge -/

/-- The cartridge type byte: offset 0x0147, or 0x00 in an image shorter than 0x0148 bytes (R91). DESIGN CHOICE: R91 gives that
0x00 for MAPPER `auto`; under a forced MBC1 mapper the same byte stands for such an image too (log entry 26). -/
def cartridgeType (image : List Byte) : Byte := image.getD 0x0147 0x00

/-- The RAM-size code: offset 0x0149 (R100; log entry 8). -/
def ramSizeCode (image : List Byte) : Byte :=
  match image[0x0149]? with
  | some v => v
  | none => Config.missingRamCode image

/-- The cartridge RAM size a code stands for (R100). -/
def ramSizeOf (code : Byte) : Except LoadError Nat :=
  if code = 0x00 then .ok 0
  else if code = 0x01 then .ok 2048
  else if code = 0x02 then .ok 8192
  else if code = 0x03 then .ok 32768
  else .error .unsupportedCartridge

/-- The cartridge RAM size of an MBC1 image (R91, R100; a forced mapper's other types: log entry 8). DESIGN CHOICE: under a
forced MBC1 mapper an image shorter than 0x0148 bytes counts as type 0x00, so its RAM size is 0 (log entry 26). -/
def mbc1RamSize (image : List Byte) : Except LoadError Nat :=
  if cartridgeType image = 0x00 ∨ cartridgeType image = 0x01 then .ok 0
  else if cartridgeType image = 0x02 ∨ cartridgeType image = 0x03 then ramSizeOf (ramSizeCode image)
  else ramSizeOf ((Config.forcedRamCode image).setWidth 8)

/-- The mapper selection (R91). -/
def selectMapper (choice : MapperChoice) (image : List Byte) : Except LoadError Mapper :=
  match choice with
  | .romOnly => .ok .romOnly
  | .mbc1 => .ok .mbc1
  | .auto =>
    if cartridgeType image = 0x00 then .ok .romOnly
    else if cartridgeType image = 0x01 ∨ cartridgeType image = 0x02 ∨ cartridgeType image = 0x03 then .ok .mbc1
    else .error .unsupportedCartridge

/-- A cartridge from the bytes installed as `rom` and from the whole file, whose hash it carries (R95). -/
def Cartridge.ofImage (mapper : Mapper) (rom : List Byte) (ramSize : Nat) (file : List Byte) : Cartridge where
  mapper := mapper
  romLen := rom.length
  rom := Memory.ofBytes 0 rom
  ramSize := ramSize
  hash := Config.hashFn file

/-- A ROM-only cartridge: an image over 32768 bytes is truncated or rejected (R92, R93). -/
def romOnlyCartridge (policy : OversizePolicy) (file : List Byte) : Except LoadError Cartridge :=
  if file.length ≤ 32768 then .ok (Cartridge.ofImage .romOnly file 0 file)
  else
    match policy with
    | .truncate => .ok (Cartridge.ofImage .romOnly (file.take 32768) 0 file)
    | .reject => .error .tooLarge

/-- An MBC1 cartridge of at most 2 MiB (R94). DESIGN CHOICE: the spec gives no order of the two failures of an image that is
over 2 MiB and has an unsupported RAM-size code; the size is tested first, so that image is TooLarge (log entry 23). -/
def mbc1Cartridge (file : List Byte) : Except LoadError Cartridge :=
  if file.length ≤ 2097152 then
    match mbc1RamSize file with
    | .ok size => .ok (Cartridge.ofImage .mbc1 file size file)
    | .error e => .error e
  else .error .tooLarge

/-- The cartridge a file's bytes make (R91 to R95). -/
def makeCartridge (params : Params) (file : List Byte) : Except LoadError Cartridge :=
  match selectMapper params.mapper file with
  | .error e => .error e
  | .ok .romOnly => romOnlyCartridge params.oversizePolicy file
  | .ok .mbc1 => mbc1Cartridge file

/-- `LoadFromFile` (R90): `none` is a file that is missing or unreadable. A load ends with a Reset. Its precondition, not
running (R485), is the caller's: the spec names no failure for it (log entry 9). -/
def State.loadFromFile (s : State) (file : Option (List Byte)) : Except LoadError State :=
  match file with
  | none => .error .unreadable
  | some bytes =>
    match makeCartridge s.params bytes with
    | .ok c => .ok ({ s with cart := some c } : State).hostReset
    | .error e => .error e

/-- `ContentHash()` (R95, R485). -/
def State.contentHash (s : State) : Except ControlError Nat :=
  match s.cart with
  | some c => .ok c.hash
  | none => .error .noCartridge

/-! ### Running, pausing and stepping -/

/-- `Start(mode)` (R485). -/
def State.start (s : State) (mode : StartMode) : Except ControlError State :=
  match s.cart with
  | some _ => .ok { s with host := { s.host with running := some mode } }
  | none => .error .noCartridge

/-- Whether the stepping thread runs (R485). -/
def State.isRunning (s : State) : Bool := s.host.running.isSome

/-- Whether a running emulator is paused: by the host or by a breakpoint (R471, R480; log entry 9). -/
def State.isPaused (s : State) : Bool := s.host.paused || s.runState == .breakpointPaused

/-- One turn of the stepping thread: an Update, or nothing while the host does not run it or has paused it (R471, R485). -/
def State.threadTurn (s : State) : Result := if s.isRunning && !s.host.paused then update s else .next s

/-- `Pause()` (R471, R485): only the host's flag. -/
def State.pause (s : State) : Except ControlError State :=
  if s.isRunning then .ok { s with host := { s.host with paused := true } } else .error .notRunning

/-- Leaving BreakpointPaused: `run_state <- Running; bp_resume <- 1` (R480). -/
def State.leaveBreakpoint (s : State) : State :=
  if s.runState = .breakpointPaused then { s with runState := .running, bpResume := true } else s

/-- `Resume()` (R480). -/
def State.resume (s : State) : Except ControlError State :=
  if s.isRunning && s.isPaused then
    .ok { s.leaveBreakpoint with host := { s.host with paused := false } }
  else .error .notRunning

/-- The host's pause flag set after an Update (R480). -/
def pauseAfter : Result → Result
  | .next t => .next { t with host := { t.host with paused := true } }
  | .fault r => .fault r
  | .refused r => .refused r

/-- `Step()` (R480): exactly one Update, and the emulator is paused again. -/
def State.stepOnce (s : State) : Except ControlError Result :=
  if s.isRunning && s.isPaused then .ok (pauseAfter (update s.leaveBreakpoint)) else .error .notRunning

/-- `Stop()` (R485): the stepping thread exits between Updates; the core state is kept. -/
def State.stop (s : State) : Except ControlError State :=
  if s.isRunning then .ok { s with host := { s.host with running := none } } else .error .notRunning

/-! ### The screen -/

/-- The triple of a shade (R463). -/
def Palette.rgb (p : Palette) (shade : Shade) : Rgb :=
  match shade.toNat with
  | 0 => p.shade0
  | 1 => p.shade1
  | 2 => p.shade2
  | _ => p.shade3

/-- `GetScreenData()` (R463, R485): a copy of `front`, with the palette for display. -/
def State.getScreenData (s : State) : Frame × Palette := (s.ppu.front, s.host.palette)

/-- The colours of the screen: each shade of `front` through the palette (R463). -/
def State.screenColours (s : State) : List (List Rgb) := s.ppu.front.map fun row => row.map s.host.palette.rgb

/-- `SetPalette(p)` (R463, R485). -/
def State.setPalette (s : State) (p : Palette) : State := { s with host := { s.host with palette := p } }

/-! ### Breakpoints -/

/-- `AddBreakpoint(bp)` (R481): appended; the index returned is the old length. -/
def State.addBreakpoint (s : State) (bp : Breakpoint) : State × Nat :=
  ({ s with breakpoints := s.breakpoints ++ [bp] }, s.breakpoints.length)

/-- `RemoveBreakpoint(i)` (R481): later elements move down one index. -/
def State.removeBreakpoint (s : State) (i : Nat) : Except ControlError State :=
  if i < s.breakpoints.length then .ok { s with breakpoints := s.breakpoints.eraseIdx i }
  else .error .breakpointIndexOutOfRange

end Sys2Proof.Machine
end

