-- ==== Sys2Proof/Machine/Harness.lean ====
section
/-! DEFINITION. The regression harness's run-to-N contract (R488). -/

namespace Sys2Proof.Machine

/-- Updates while `cycles < N` and the CPU is not paused at a breakpoint (R488). Every Update but the one that pauses spends
at least 4 cycles, so `N + 1` turns are enough. -/
def runLoop (n : Nat) : Nat → State → Result
  | 0, s => .next s
  | turns + 1, s =>
    if s.cycles < n ∧ s.runState ≠ .breakpointPaused then
      match update s with
      | .next t => runLoop n turns t
      | .fault r => .fault r
      | .refused r => .refused r
    else .next s

/-- `RunTo(N)` up to its hash: the state where the run ends (R488). -/
def State.runTo (s : State) (n : Nat) : Result := runLoop n (n + 1) s.hostReset

/-- The bytes hashed: the shades of `front` in row-major order, one byte per pixel (R488). -/
def State.frameBytes (s : State) : List Byte := s.ppu.front.flatten.map fun shade => shade.setWidth 8

/-- `FrameHash(front)` (R488). -/
def State.frameHash (s : State) : Nat := Config.hashFn s.frameBytes

/-- An expectation record (R488): 0 as the expected hash is the unresolved, all-zero marker. -/
structure Expectation where
  hash : Nat
  cycles : Nat
  expectedHash : Nat
  deriving DecidableEq, Repr

/-- The classification of a run (R488). -/
inductive TestResult where
  | none
  | unknown
  | passed
  | failed
  deriving DecidableEq, Repr

/-- The classification, from the expectation records, the cartridge's content hash and the frame hash the run ended with, or
no frame hash after a timeout imposed from outside (R488). DESIGN CHOICE: the spec speaks of one record; of several that match
the content hash the first counts (log entry 24). -/
def classify (records : List Expectation) (contentHash : Nat) (frameHash : Option Nat) : TestResult :=
  match records.find? fun e => e.hash == contentHash with
  | .none => .none
  | some e =>
    if e.expectedHash = 0 then .unknown
    else if frameHash = some e.expectedHash then .passed
    else .failed

end Sys2Proof.Machine
end

