-- ==== Sys2Proof/Safety.lean ====
section
/-! DEFINITION. The terms the claims use: the invariant of the machine, the addresses a store may reach, the position of the
PPU in a frame, and what an Update spends. No instruction can fault (R400, R156), so a safe run is one that keeps the
invariant. -/

namespace Sys2Proof.Machine

/-! ### The invariant -/

/-- The keys of `mem` that have storage behind them (R62, R71, R75): VRAM, WRAM, OAM, the audio bytes, the unnamed I/O
addresses and HRAM. An echo address is no key of its own (R68). -/
def ramKey (k : Nat) : Bool :=
  (decide (0x8000 ≤ k) && decide (k < 0xA000)) || (decide (0xC000 ≤ k) && decide (k < 0xE000)) ||
    (decide (0xFE00 ≤ k) && decide (k < 0xFEA0)) ||
    (decide (0xFF00 ≤ k) && decide (k < 0xFF80) &&
      (ioRegOf (k % 256) == .audio || ioRegOf (k % 256) == .unnamed)) ||
    (decide (0xFF80 ≤ k) && decide (k < 0xFFFF))

/-- A framebuffer is 144 rows of 160 shades (R5, R35). -/
def Frame.sized (f : Frame) : Prop := f.length = Config.fbHeight ∧ ∀ row ∈ f, row.length = Config.fbWidth

/-- How many visible lines of the frame the PPU has rendered at its position (R449, R450). -/
def Ppu.linesDone (p : Ppu) : Nat :=
  if 144 ≤ p.ly then 144 else if 252 ≤ p.dot then p.ly + 1 else p.ly

/-- What the PPU keeps (R35, R448, R455, R458): its position in range; with the LCD on, the mode is `ModeAt(ly, dot)` and the
window row counter is at most the lines rendered; with the LCD off, line 0, dot 0, mode 0 and a low STAT line; both
framebuffers whole. -/
structure Ppu.Inv (p : Ppu) : Prop where
  ly_range : p.ly < 154
  dot_range : p.dot < 456
  mode_on : p.lcdOn = true → p.mode = modeAt p.ly p.dot
  window_on : p.lcdOn = true → p.winLine ≤ p.linesDone
  window_range : p.winLine ≤ 144
  off : p.lcdOn = false → p.ly = 0 ∧ p.dot = 0 ∧ p.mode = .hblank ∧ p.statLine = false
  back_sized : p.back.sized
  front_sized : p.front.sized

/-- What a cartridge and its RAM keep (R34, R98): canonical forms, and every listed byte inside its memory. -/
structure State.CartInv (s : State) : Prop where
  ram_wf : s.cartRam.wf = true
  ram_keys : ∀ cell ∈ s.cartRam, ∃ c, s.cart = some c ∧ cell.1 < c.ramSize
  rom_wf : ∀ c, s.cart = some c → c.rom.wf = true ∧ ∀ cell ∈ c.rom, cell.1 < c.romLen

/-- The invariant of the machine: every Update and every host operation keeps it, and Reset has it. -/
structure State.Inv (s : State) : Prop where
  /-- `mem` is canonical and lists only bytes that exist (R62). -/
  mem_wf : s.mem.wf = true
  mem_keys : ∀ cell ∈ s.mem, ramKey cell.1 = true
  cart : s.CartInv
  /-- Bits 3..0 of F are 0 (R22). -/
  flags_low : s.regs.f &&& 0x0F = 0
  /-- `bank_lo` is never 0 (R35, R96). -/
  bank_lo : s.mbc.bankLo ≠ 0
  /-- SC stores bits 7 and 0 only (R431). -/
  serial : s.sc &&& 0x7E = 0
  ppu : s.ppu.Inv
  /-- Locked is reachable only under ILLEGAL_POLICY = lock (R27). -/
  locked_policy : s.runState = .locked → s.params.illegalPolicy = .lock
  /-- The HALT bug latch is set only where HALT_BUG is true (R28). -/
  halt_bug : s.haltBug = true → s.params.haltBug = true
  /-- In BOOT_MODE `skip` the boot ROM is never mapped (R83). -/
  boot : s.bootMapped = true → s.params.bootMode ≠ .skip

/-! ### What a store may change (R80) -/

/-- The key of `mem` an address of WRAM or its echo stands for (R68), and the address itself elsewhere. -/
def ramAlias (a : Word) : Nat := if regionOf a = .echo then a.toNat - 0x2000 else a.toNat

/-- Whether an address is one of the ROM window or the cartridge RAM window, which the mapper decodes (R64, R66). -/
def mapperWindow (a : Word) : Bool :=
  match regionOf a with
  | .romLow => true
  | .romHigh => true
  | .cartRam => true
  | _ => false

/-- The register of the I/O window at an address, if it is in the window (R75). -/
def ioRegAt? (a : Word) : Option IoReg := if regionOf a = .io then some (ioRegAt a) else none

/-- The addresses, beside its own, whose reads a write to an I/O register may change (R80, R421, R422, R436, R441, R444, R455,
R83): DIV and TAC may increment TIMA and request an interrupt; LCDC changes STAT and LY and may request an interrupt;
LYC changes STAT's coincidence bit; DMA changes OAM; BOOT unmaps the boot ROM. -/
def IoReg.alsoReaches (r : IoReg) (b : Word) : Bool :=
  match r with
  | .div => ioRegAt? b == some .tima || ioRegAt? b == some .intFlag
  | .tac => ioRegAt? b == some .tima || ioRegAt? b == some .intFlag
  | .lcdc => ioRegAt? b == some .stat || ioRegAt? b == some .ly || ioRegAt? b == some .intFlag
  | .lyc => ioRegAt? b == some .stat
  | .dma => regionOf b == .oam
  | .boot => decide (b.toNat < 0x100)
  | _ => false

/-- Whether a store to `a` may change what address `b` reads as. A store to the ROM window may change the banks mapped in
the ROM and cartridge RAM windows (R64); a store to cartridge RAM reaches the addresses with the same offset (R98); a
store to WRAM or its echo reaches both names of its byte (R68); a store to an I/O register reaches itself and
`alsoReaches`; any other store reaches its own address only. -/
def State.storeReaches (s : State) (a b : Word) : Bool :=
  match regionOf a with
  | .romLow => mapperWindow b
  | .romHigh => mapperWindow b
  | .cartRam => regionOf b == .cartRam && s.cartRamOffset b == s.cartRamOffset a
  | .unusable => false
  | .io => a == b || (ioRegAt a).alsoReaches b
  | _ => ramAlias b == ramAlias a

/-! ### Positions and spending -/

/-- The position of the PPU in its frame, in dots (R450). -/
def Ppu.position (p : Ppu) : Nat := p.ly * 456 + p.dot

/-- The dots of a frame (R450). -/
def frameDots : Nat := 154 * 456

end Sys2Proof.Machine
end

