-- ==== Sys2Proof/Certificates/Slice0/Obligations.lean ====
section
/-! DEFINITION. The statements about the model. A result statement gives the encoding, the whole next state (what it does not
name is unchanged) and the cost, so it is the instruction's completion and its frame at once; `{ t with … }` over a
store `t` is completed by StoreFrame, which says what a store leaves unchanged. `flagByte z n h c` is read through
RegisterFile, and so are the register updates. -/

open Sys2Proof Sys2Proof.Machine

/-! ### Encoding and decoding -/

/-- R130, R136, R142, R143: decoding the encoding of a well-formed instruction gives it back, with the bytes after it. -/
def Obligations.DecodeOfEncode : Prop :=
  ∀ i : Instr, i.wellFormed = true → ∀ rest : List Byte, decode (encode i ++ rest) = .ok (i, rest)

/-- R137, R141, R143: whatever bytes decode, the instruction is well formed and they are its encoding and the rest. -/
def Obligations.EncodeOfDecode : Prop :=
  ∀ (bytes rest : List Byte) (i : Instr), decode bytes = .ok (i, rest) → i.wellFormed = true ∧ encode i ++ rest = bytes

/-- R130, R137, R138, R143: decoding is total: an opcode byte with its `skip` operand bytes decodes and uses exactly
those; with fewer the list decoder refuses it as truncated (the model's choice, log entry 25); each of the 256 values has
an entry in its table; an instruction is one opcode byte and `skip` operand bytes, `skip` being 0, 1 or 2; and the
prefixed table is the one the fields x, y and z give. -/
def Obligations.DecodeIsTotal : Prop :=
  (∀ (op : Byte) (rest : List Byte), skip op ≤ rest.length →
    ∃ i, decode (op :: rest) = .ok (i, rest.drop (skip op))) ∧
  (∀ (op : Byte) (rest : List Byte), rest.length < skip op → decode (op :: rest) = .error (.truncated op)) ∧
  (∀ op b1 b2 : Byte, (baseRow (op.toNat / 16) b1 (wordOf b2 b1))[op.toNat % 16]? = some (baseEntry op b1 b2)) ∧
  (∀ b : Byte, (cbRow (b.toNat / 16))[b.toNat % 16]? = some (cbEntry b)) ∧
  (∀ i : Instr, ∃ op ops, encode i = op :: ops ∧ ops.length = skip op ∧ skip op ≤ 2) ∧
  (∀ b : Byte, cbEntry b =
    match (fieldX b).toNat, R8.ofField (fieldZ b) with
    | 0, some r => .rotReg (Rot.ofField (fieldY b)) r
    | 0, none => .rotMem (Rot.ofField (fieldY b))
    | 1, some r => .bitReg (BitNo.ofField (fieldY b)) r
    | 1, none => .bitMem (BitNo.ofField (fieldY b))
    | 2, some r => .resReg (BitNo.ofField (fieldY b)) r
    | 2, none => .resMem (BitNo.ofField (fieldY b))
    | _, some r => .setReg (BitNo.ofField (fieldY b)) r
    | _, none => .setMem (BitNo.ofField (fieldY b)))

/-- A few words written out from the spec's encodings decode to their instructions. -/
def Obligations.DecodeSampleWords : Prop :=
  decode [0b01010110] = .ok (.ld_d_mhl, []) ∧ decode [0b00110110, 0x07] = .ok (.ld_mhl_n8 0x07, []) ∧
  decode [0b00100001, 0x00, 0xC0] = .ok (.ld_hl_n16 0xC000, []) ∧ decode [0b11110101] = .ok (.push_af, []) ∧
  decode [0b10011010] = .ok (.sbc_a_d, []) ∧ decode [0b00011001] = .ok (.add_hl_de, []) ∧
  decode [0b00010111] = .ok (.rla, []) ∧ decode [0b11001011, 0b00110111] = .ok (.swap_a, []) ∧
  decode [0b11001011, 0b01111100] = .ok (.bit_7_h, []) ∧ decode [0b00100000, 0xFD] = .ok (.jr_nz_e8 0xFD, []) ∧
  decode [0b11001101, 0x00, 0x02] = .ok (.call_a16 0x0200, []) ∧ decode [0b11101111] = .ok (.rst_28h, []) ∧
  decode [0b01110110] = .ok (.halt, []) ∧ decode [0xD3] = .ok (.illegal_d3, [])

/-! ### The register file -/

/-- R20, R21, R22, R132: an 8-bit register written is seen by a read of that register and by no other; a pair has the
first-named register in the high byte and a write of it writes both; AF loses the low nibble of F; F holds Z, N, H and C
in bits 7 to 4 and 0 in bits 3..0, and `flagByte` builds that byte. -/
def Obligations.RegisterFile : Prop :=
  ∀ (r : Regs) (i j : R8) (b : Byte) (v : Word),
    ((r.set8 i b).get8 j = (if j = i then b else r.get8 j) ∧
      (r.set8 i b).f = r.f ∧ (r.set8 i b).sp = r.sp ∧ (r.set8 i b).pc = r.pc) ∧
    (r.bc = r.b ++ r.c ∧ r.de = r.d ++ r.e ∧ r.hl = r.h ++ r.l ∧ r.af = r.a ++ r.f) ∧
    (r.setBc v = { r with b := v.extractLsb' 8 8, c := v.extractLsb' 0 8 } ∧
      r.setDe v = { r with d := v.extractLsb' 8 8, e := v.extractLsb' 0 8 } ∧
      r.setHl v = { r with h := v.extractLsb' 8 8, l := v.extractLsb' 0 8 } ∧
      r.setAf v = { r with a := v.extractLsb' 8 8, f := v.extractLsb' 0 8 &&& 0xF0 }) ∧
    ∀ z n h c : Bool, r.f = flagByte z n h c →
      r.fz = z ∧ r.fn = n ∧ r.fh = h ∧ r.fc = c ∧ r.f &&& 0x0F = 0 ∧
      r.f.toNat = 128 * z.toNat + 64 * n.toNat + 32 * h.toNat + 16 * c.toNat

/-! ### Loads -/

/-- R201, R202, R203, R206, R207, R210, R212, R214, R216, R217: the loads into a register. -/
def Obligations.RegisterLoads : Prop :=
  ∀ (s : State) (dst r : R8) (n : Byte) (a : Word),
    (encode (.ldRegReg dst r) = [0b01#2 ++ dst.code ++ r.code] ∧
      exec (.ldRegReg dst r) s = .next { s with regs := s.regs.set8 dst (s.regs.get8 r), cycles := s.cycles + 4 }) ∧
    (encode (.ldRegImm dst n) = [0b00#2 ++ dst.code ++ 0b110#3, n] ∧
      exec (.ldRegImm dst n) s = .next { s with regs := s.regs.set8 dst n, cycles := s.cycles + 8 }) ∧
    (encode (.ldRegMem dst) = [0b01#2 ++ dst.code ++ 0b110#3] ∧
      exec (.ldRegMem dst) s =
        .next { s with regs := s.regs.set8 dst (s.cpuRead s.regs.hl), cycles := s.cycles + 8 }) ∧
    (encode .ld_a_mbc = [0x0A] ∧
      exec .ld_a_mbc s = .next { s with regs := { s.regs with a := s.cpuRead s.regs.bc }, cycles := s.cycles + 8 }) ∧
    (encode .ld_a_mde = [0x1A] ∧
      exec .ld_a_mde s = .next { s with regs := { s.regs with a := s.cpuRead s.regs.de }, cycles := s.cycles + 8 }) ∧
    (encode (.ld_a_ma16 a) = [0xFA, a.extractLsb' 0 8, a.extractLsb' 8 8] ∧
      exec (.ld_a_ma16 a) s = .next { s with regs := { s.regs with a := s.cpuRead a }, cycles := s.cycles + 16 }) ∧
    (encode (.ldh_a_ma8 n) = [0xF0, n] ∧
      exec (.ldh_a_ma8 n) s =
        .next { s with regs := { s.regs with a := s.cpuRead (0xFF00 + n.setWidth 16) }, cycles := s.cycles + 12 }) ∧
    (encode .ld_a_mc = [0xF2] ∧
      exec .ld_a_mc s =
        .next { s with
          regs := { s.regs with a := s.cpuRead (0xFF00 + s.regs.c.setWidth 16) }, cycles := s.cycles + 8 }) ∧
    (encode .ld_a_mhli = [0x2A] ∧
      exec .ld_a_mhli s =
        .next { s with
          regs := ({ s.regs with a := s.cpuRead s.regs.hl } : Regs).setHl (s.regs.hl + 1), cycles := s.cycles + 8 }) ∧
    (encode .ld_a_mhld = [0x3A] ∧
      exec .ld_a_mhld s =
        .next { s with
          regs := ({ s.regs with a := s.cpuRead s.regs.hl } : Regs).setHl (s.regs.hl - 1), cycles := s.cycles + 8 })

/-- R204, R205, R208, R209, R211, R213, R215, R218, R219: the 8-bit stores. The address stored to is the one `cpuWrite` is
given; StoreFrame says what the rest of memory does. -/
def Obligations.RegisterStores : Prop :=
  ∀ (s : State) (r : R8) (n : Byte) (a : Word),
    (encode (.ldMemReg r) = [0b01110#5 ++ r.code] ∧
      exec (.ldMemReg r) s =
        .next { s.cpuWrite s.regs.hl (s.regs.get8 r) with regs := s.regs, cycles := s.cycles + 8 }) ∧
    (encode (.ld_mhl_n8 n) = [0x36, n] ∧
      exec (.ld_mhl_n8 n) s = .next { s.cpuWrite s.regs.hl n with regs := s.regs, cycles := s.cycles + 12 }) ∧
    (encode .ld_mbc_a = [0x02] ∧
      exec .ld_mbc_a s = .next { s.cpuWrite s.regs.bc s.regs.a with regs := s.regs, cycles := s.cycles + 8 }) ∧
    (encode .ld_mde_a = [0x12] ∧
      exec .ld_mde_a s = .next { s.cpuWrite s.regs.de s.regs.a with regs := s.regs, cycles := s.cycles + 8 }) ∧
    (encode (.ld_ma16_a a) = [0xEA, a.extractLsb' 0 8, a.extractLsb' 8 8] ∧
      exec (.ld_ma16_a a) s = .next { s.cpuWrite a s.regs.a with regs := s.regs, cycles := s.cycles + 16 }) ∧
    (encode (.ldh_ma8_a n) = [0xE0, n] ∧
      exec (.ldh_ma8_a n) s =
        .next { s.cpuWrite (0xFF00 + n.setWidth 16) s.regs.a with regs := s.regs, cycles := s.cycles + 12 }) ∧
    (encode .ld_mc_a = [0xE2] ∧
      exec .ld_mc_a s =
        .next { s.cpuWrite (0xFF00 + s.regs.c.setWidth 16) s.regs.a with regs := s.regs, cycles := s.cycles + 8 }) ∧
    (encode .ld_mhli_a = [0x22] ∧
      exec .ld_mhli_a s =
        .next { s.cpuWrite s.regs.hl s.regs.a with
          regs := s.regs.setHl (s.regs.hl + 1), cycles := s.cycles + 8 }) ∧
    (encode .ld_mhld_a = [0x32] ∧
      exec .ld_mhld_a s =
        .next { s.cpuWrite s.regs.hl s.regs.a with
          regs := s.regs.setHl (s.regs.hl - 1), cycles := s.cycles + 8 })

/-- R77, R230 to R236: the 16-bit loads. LD HL,SP+e8 takes H and C from the unsigned low-byte add. PUSH stores the high
byte at SP - 1 and then the low byte at SP - 2; POP reads the low byte at SP and the high byte at SP + 1; POP AF clears
bits 3..0 of F. -/
def Obligations.SixteenBitLoads : Prop :=
  ∀ (s : State) (p : R16) (q : R16s) (n : Word) (e : Byte),
    (encode (.ldPairImm p n) = [0b00#2 ++ p.code ++ 0b0001#4, n.extractLsb' 0 8, n.extractLsb' 8 8] ∧
      exec (.ldPairImm p n) s = .next { s with regs := s.regs.set16 p n, cycles := s.cycles + 12 }) ∧
    (encode (.ld_ma16_sp n) = [0x08, n.extractLsb' 0 8, n.extractLsb' 8 8] ∧
      exec (.ld_ma16_sp n) s =
        .next { (s.cpuWrite n (s.regs.sp.extractLsb' 0 8)).cpuWrite (n + 1) (s.regs.sp.extractLsb' 8 8) with
          regs := s.regs, cycles := s.cycles + 20 }) ∧
    (encode .ld_sp_hl = [0xF9] ∧
      exec .ld_sp_hl s = .next { s with regs := { s.regs with sp := s.regs.hl }, cycles := s.cycles + 8 }) ∧
    (encode (.ld_hl_spe8 e) = [0xF8, e] ∧
      exec (.ld_hl_spe8 e) s =
        .next { s with
          regs :=
            { s.regs.setHl (BitVec.ofInt 16 ((s.regs.sp.toNat : Int) + e.toInt)) with
              f := flagByte false false (decide (s.regs.sp.toNat % 16 + e.toNat % 16 > 0xF))
                (decide (s.regs.sp.toNat % 256 + e.toNat > 0xFF)) }
          cycles := s.cycles + 12 }) ∧
    (encode (.pushPair q) = [0b11#2 ++ q.code ++ 0b0101#4] ∧
      exec (.pushPair q) s =
        .next
          { (s.cpuWrite (s.regs.sp - 1) ((s.regs.get16s q).extractLsb' 8 8)).cpuWrite (s.regs.sp - 2)
              ((s.regs.get16s q).extractLsb' 0 8) with
            regs := { s.regs with sp := s.regs.sp - 2 }, cycles := s.cycles + 16 }) ∧
    (encode (.popPair q) = [0b11#2 ++ q.code ++ 0b0001#4] ∧
      exec (.popPair q) s =
        .next { s with
          regs := ({ s.regs with sp := s.regs.sp + 2 } : Regs).set16s q
            (s.cpuRead (s.regs.sp + 1) ++ s.cpuRead s.regs.sp)
          cycles := s.cycles + 12 })

/-! ### 8-bit arithmetic and logic -/

/-- R250, R252 to R257: ADD and ADC, with `add8`'s result and flags. -/
def Obligations.AddAndAddWithCarry : Prop :=
  ∀ (s : State) (r : R8) (n : Byte),
    let outcome (v : Byte) (cin cost : Nat) : Result :=
      .next { s with
        regs := { s.regs with
          a := BitVec.ofNat 8 (s.regs.a.toNat + v.toNat + cin)
          f := flagByte (decide ((s.regs.a.toNat + v.toNat + cin) % 256 = 0)) false
            (decide (s.regs.a.toNat % 16 + v.toNat % 16 + cin > 0xF))
            (decide (s.regs.a.toNat + v.toNat + cin > 0xFF)) }
        cycles := s.cycles + cost }
    (encode (.aluReg .add r) = [0b10000#5 ++ r.code] ∧ exec (.aluReg .add r) s = outcome (s.regs.get8 r) 0 4) ∧
    (encode (.aluMem .add) = [0x86] ∧ exec (.aluMem .add) s = outcome (s.cpuRead s.regs.hl) 0 8) ∧
    (encode (.aluImm .add n) = [0xC6, n] ∧ exec (.aluImm .add n) s = outcome n 0 8) ∧
    (encode (.aluReg .adc r) = [0b10001#5 ++ r.code] ∧
      exec (.aluReg .adc r) s = outcome (s.regs.get8 r) s.regs.fc.toNat 4) ∧
    (encode (.aluMem .adc) = [0x8E] ∧ exec (.aluMem .adc) s = outcome (s.cpuRead s.regs.hl) s.regs.fc.toNat 8) ∧
    (encode (.aluImm .adc n) = [0xCE, n] ∧ exec (.aluImm .adc n) s = outcome n s.regs.fc.toNat 8)

/-- R251, R258 to R263, R273 to R275: SUB, SBC and CP, with `sub8`'s result and flags; CP leaves A. -/
def Obligations.SubtractAndCompare : Prop :=
  ∀ (s : State) (r : R8) (n : Byte),
    let flags (v : Byte) (bin : Nat) : Byte :=
      flagByte (decide (((s.regs.a.toNat : Int) - v.toNat - bin) % 256 = 0)) true
        (decide (s.regs.a.toNat % 16 < v.toNat % 16 + bin)) (decide (s.regs.a.toNat < v.toNat + bin))
    let outcome (v : Byte) (bin cost : Nat) : Result :=
      .next { s with
        regs := { s.regs with a := BitVec.ofInt 8 ((s.regs.a.toNat : Int) - v.toNat - bin), f := flags v bin }
        cycles := s.cycles + cost }
    let compared (v : Byte) (cost : Nat) : Result :=
      .next { s with regs := { s.regs with f := flags v 0 }, cycles := s.cycles + cost }
    (encode (.aluReg .sub r) = [0b10010#5 ++ r.code] ∧ exec (.aluReg .sub r) s = outcome (s.regs.get8 r) 0 4) ∧
    (encode (.aluMem .sub) = [0x96] ∧ exec (.aluMem .sub) s = outcome (s.cpuRead s.regs.hl) 0 8) ∧
    (encode (.aluImm .sub n) = [0xD6, n] ∧ exec (.aluImm .sub n) s = outcome n 0 8) ∧
    (encode (.aluReg .sbc r) = [0b10011#5 ++ r.code] ∧
      exec (.aluReg .sbc r) s = outcome (s.regs.get8 r) s.regs.fc.toNat 4) ∧
    (encode (.aluMem .sbc) = [0x9E] ∧ exec (.aluMem .sbc) s = outcome (s.cpuRead s.regs.hl) s.regs.fc.toNat 8) ∧
    (encode (.aluImm .sbc n) = [0xDE, n] ∧ exec (.aluImm .sbc n) s = outcome n s.regs.fc.toNat 8) ∧
    (encode (.aluReg .cp r) = [0b10111#5 ++ r.code] ∧ exec (.aluReg .cp r) s = compared (s.regs.get8 r) 4) ∧
    (encode (.aluMem .cp) = [0xBE] ∧ exec (.aluMem .cp) s = compared (s.cpuRead s.regs.hl) 8) ∧
    (encode (.aluImm .cp n) = [0xFE, n] ∧ exec (.aluImm .cp n) s = compared n 8)

/-- R264 to R272: AND, XOR and OR. AND sets H; the others clear it; C is 0. -/
def Obligations.LogicResults : Prop :=
  ∀ (s : State) (r : R8) (n : Byte),
    let outcome (res : Byte) (h : Bool) (cost : Nat) : Result :=
      .next { s with
        regs := { s.regs with a := res, f := flagByte (decide (res = 0)) false h false }, cycles := s.cycles + cost }
    let m := s.cpuRead s.regs.hl
    (encode (.aluReg .and r) = [0b10100#5 ++ r.code] ∧
      exec (.aluReg .and r) s = outcome (s.regs.a &&& s.regs.get8 r) true 4) ∧
    (encode (.aluMem .and) = [0xA6] ∧ exec (.aluMem .and) s = outcome (s.regs.a &&& m) true 8) ∧
    (encode (.aluImm .and n) = [0xE6, n] ∧ exec (.aluImm .and n) s = outcome (s.regs.a &&& n) true 8) ∧
    (encode (.aluReg .xor r) = [0b10101#5 ++ r.code] ∧
      exec (.aluReg .xor r) s = outcome (s.regs.a ^^^ s.regs.get8 r) false 4) ∧
    (encode (.aluMem .xor) = [0xAE] ∧ exec (.aluMem .xor) s = outcome (s.regs.a ^^^ m) false 8) ∧
    (encode (.aluImm .xor n) = [0xEE, n] ∧ exec (.aluImm .xor n) s = outcome (s.regs.a ^^^ n) false 8) ∧
    (encode (.aluReg .or r) = [0b10110#5 ++ r.code] ∧
      exec (.aluReg .or r) s = outcome (s.regs.a ||| s.regs.get8 r) false 4) ∧
    (encode (.aluMem .or) = [0xB6] ∧ exec (.aluMem .or) s = outcome (s.regs.a ||| m) false 8) ∧
    (encode (.aluImm .or n) = [0xF6, n] ∧ exec (.aluImm .or n) s = outcome (s.regs.a ||| n) false 8)

/-- R276 to R279: INC and DEC of a register and of the byte at HL. C is kept. -/
def Obligations.IncrementAndDecrement : Prop :=
  ∀ (s : State) (r : R8),
    let up (v : Byte) : Byte := BitVec.ofNat 8 (v.toNat + 1)
    let down (v : Byte) : Byte := BitVec.ofInt 8 ((v.toNat : Int) - 1)
    let upFlags (v : Byte) : Byte := flagByte (decide (v = 0xFF)) false (decide (v.toNat % 16 = 0xF)) s.regs.fc
    let downFlags (v : Byte) : Byte := flagByte (decide (v = 0x01)) true (decide (v.toNat % 16 = 0x0)) s.regs.fc
    let m := s.cpuRead s.regs.hl
    (encode (.incReg r) = [0b00#2 ++ r.code ++ 0b100#3] ∧
      exec (.incReg r) s =
        .next { s with
          regs := { s.regs.set8 r (up (s.regs.get8 r)) with f := upFlags (s.regs.get8 r) }, cycles := s.cycles + 4 }) ∧
    (encode .inc_mhl = [0x34] ∧
      exec .inc_mhl s =
        .next { s.cpuWrite s.regs.hl (up m) with
          regs := { s.regs with f := upFlags m }, cycles := s.cycles + 12 }) ∧
    (encode (.decReg r) = [0b00#2 ++ r.code ++ 0b101#3] ∧
      exec (.decReg r) s =
        .next { s with
          regs := { s.regs.set8 r (down (s.regs.get8 r)) with f := downFlags (s.regs.get8 r) }
          cycles := s.cycles + 4 }) ∧
    (encode .dec_mhl = [0x35] ∧
      exec .dec_mhl s =
        .next { s.cpuWrite s.regs.hl (down m) with
          regs := { s.regs with f := downFlags m }, cycles := s.cycles + 12 })

/-- R280 to R283: DAA by its pseudocode: the amount added or subtracted, Z from the result, N kept, H cleared, C set by
the high correction and never cleared; and CPL, SCF and CCF. -/
def Obligations.AccumulatorAdjustments : Prop :=
  ∀ s : State,
    let a := s.regs.a.toNat
    let high : Bool := if s.regs.fn then s.regs.fc else s.regs.fc || decide (a > 0x99)
    let low : Bool := if s.regs.fn then s.regs.fh else s.regs.fh || decide (a % 16 > 0x09)
    let amount : Int := (if high then 0x60 else 0) + (if low then 0x06 else 0)
    let res : Byte := BitVec.ofInt 8 (if s.regs.fn then (a : Int) - amount else a + amount)
    (encode .daa = [0x27] ∧
      exec .daa s =
        .next { s with
          regs := { s.regs with a := res, f := flagByte (decide (res = 0)) s.regs.fn false high }
          cycles := s.cycles + 4 }) ∧
    (encode .cpl = [0x2F] ∧
      exec .cpl s =
        .next { s with
          regs := { s.regs with a := s.regs.a ^^^ 0xFF, f := flagByte s.regs.fz true true s.regs.fc }
          cycles := s.cycles + 4 }) ∧
    (encode .scf = [0x37] ∧
      exec .scf s =
        .next { s with regs := { s.regs with f := flagByte s.regs.fz false false true }, cycles := s.cycles + 4 }) ∧
    (encode .ccf = [0x3F] ∧
      exec .ccf s =
        .next { s with
          regs := { s.regs with f := flagByte s.regs.fz false false (!s.regs.fc) }, cycles := s.cycles + 4 })

/-- R290 to R293: 16-bit arithmetic. ADD HL keeps Z and takes H from bit 11 and C from bit 15; INC rr and DEC rr change no
flag; ADD SP,e8 takes H and C from the unsigned low-byte add. -/
def Obligations.SixteenBitArithmetic : Prop :=
  ∀ (s : State) (p : R16) (e : Byte),
    (encode (.addHlPair p) = [0b00#2 ++ p.code ++ 0b1001#4] ∧
      exec (.addHlPair p) s =
        .next { s with
          regs :=
            { s.regs.setHl (BitVec.ofNat 16 (s.regs.hl.toNat + (s.regs.get16 p).toNat)) with
              f := flagByte s.regs.fz false
                (decide (s.regs.hl.toNat % 4096 + (s.regs.get16 p).toNat % 4096 > 0xFFF))
                (decide (s.regs.hl.toNat + (s.regs.get16 p).toNat > 0xFFFF)) }
          cycles := s.cycles + 8 }) ∧
    (encode (.incPair p) = [0b00#2 ++ p.code ++ 0b0011#4] ∧
      exec (.incPair p) s =
        .next { s with
          regs := s.regs.set16 p (BitVec.ofNat 16 ((s.regs.get16 p).toNat + 1)), cycles := s.cycles + 8 }) ∧
    (encode (.decPair p) = [0b00#2 ++ p.code ++ 0b1011#4] ∧
      exec (.decPair p) s =
        .next { s with
          regs := s.regs.set16 p (BitVec.ofInt 16 (((s.regs.get16 p).toNat : Int) - 1)), cycles := s.cycles + 8 }) ∧
    (encode (.add_sp_e8 e) = [0xE8, e] ∧
      exec (.add_sp_e8 e) s =
        .next { s with
          regs := { s.regs with
            sp := BitVec.ofInt 16 ((s.regs.sp.toNat : Int) + e.toInt)
            f := flagByte false false (decide (s.regs.sp.toNat % 16 + e.toNat % 16 > 0xF))
              (decide (s.regs.sp.toNat % 256 + e.toNat > 0xFF)) }
          cycles := s.cycles + 16 })

/-! ### Rotates, shifts and bits -/

/-- R300 to R303: the rotates of A. Z is 0 even when A becomes 0. -/
def Obligations.RotatesOfA : Prop :=
  ∀ s : State,
    let v := s.regs.a
    let outcome (res : Nat) (c : Bool) : Result :=
      .next { s with
        regs := { s.regs with a := BitVec.ofNat 8 res, f := flagByte false false false c }, cycles := s.cycles + 4 }
    (encode .rlca = [0x07] ∧ exec .rlca s = outcome (v.toNat * 2 + v.toNat / 128) (v.getLsbD 7)) ∧
    (encode .rrca = [0x0F] ∧ exec .rrca s = outcome (v.toNat / 2 + v.toNat % 2 * 128) (v.getLsbD 0)) ∧
    (encode .rla = [0x17] ∧ exec .rla s = outcome (v.toNat * 2 + s.regs.fc.toNat) (v.getLsbD 7)) ∧
    (encode .rra = [0x1F] ∧ exec .rra s = outcome (v.toNat / 2 + s.regs.fc.toNat * 128) (v.getLsbD 0))

/-- R305 to R312: RLC, RRC, RL and RR of a register and of the byte at HL. -/
def Obligations.PrefixedRotates : Prop :=
  ∀ (s : State) (r : R8),
    let flags (res : Nat) (c : Bool) : Byte := flagByte (decide (res % 256 = 0)) false false c
    let reg (res : Nat) (c : Bool) : Result :=
      .next { s with
        regs := { s.regs.set8 r (BitVec.ofNat 8 res) with f := flags res c }, cycles := s.cycles + 8 }
    let mem (res : Nat) (c : Bool) : Result :=
      .next { s.cpuWrite s.regs.hl (BitVec.ofNat 8 res) with
        regs := { s.regs with f := flags res c }, cycles := s.cycles + 16 }
    let v := s.regs.get8 r
    let m := s.cpuRead s.regs.hl
    (encode (.rotReg .rlc r) = [0xCB, 0b00000#5 ++ r.code] ∧
      exec (.rotReg .rlc r) s = reg (v.toNat * 2 + v.toNat / 128) (v.getLsbD 7)) ∧
    (encode (.rotMem .rlc) = [0xCB, 0x06] ∧
      exec (.rotMem .rlc) s = mem (m.toNat * 2 + m.toNat / 128) (m.getLsbD 7)) ∧
    (encode (.rotReg .rrc r) = [0xCB, 0b00001#5 ++ r.code] ∧
      exec (.rotReg .rrc r) s = reg (v.toNat / 2 + v.toNat % 2 * 128) (v.getLsbD 0)) ∧
    (encode (.rotMem .rrc) = [0xCB, 0x0E] ∧
      exec (.rotMem .rrc) s = mem (m.toNat / 2 + m.toNat % 2 * 128) (m.getLsbD 0)) ∧
    (encode (.rotReg .rl r) = [0xCB, 0b00010#5 ++ r.code] ∧
      exec (.rotReg .rl r) s = reg (v.toNat * 2 + s.regs.fc.toNat) (v.getLsbD 7)) ∧
    (encode (.rotMem .rl) = [0xCB, 0x16] ∧
      exec (.rotMem .rl) s = mem (m.toNat * 2 + s.regs.fc.toNat) (m.getLsbD 7)) ∧
    (encode (.rotReg .rr r) = [0xCB, 0b00011#5 ++ r.code] ∧
      exec (.rotReg .rr r) s = reg (v.toNat / 2 + s.regs.fc.toNat * 128) (v.getLsbD 0)) ∧
    (encode (.rotMem .rr) = [0xCB, 0x1E] ∧
      exec (.rotMem .rr) s = mem (m.toNat / 2 + s.regs.fc.toNat * 128) (m.getLsbD 0))

/-- R313 to R320: SLA, SRA, SWAP and SRL of a register and of the byte at HL. SRA keeps bit 7; SWAP clears C. -/
def Obligations.PrefixedShifts : Prop :=
  ∀ (s : State) (r : R8),
    let flags (res : Nat) (c : Bool) : Byte := flagByte (decide (res % 256 = 0)) false false c
    let reg (res : Nat) (c : Bool) : Result :=
      .next { s with
        regs := { s.regs.set8 r (BitVec.ofNat 8 res) with f := flags res c }, cycles := s.cycles + 8 }
    let mem (res : Nat) (c : Bool) : Result :=
      .next { s.cpuWrite s.regs.hl (BitVec.ofNat 8 res) with
        regs := { s.regs with f := flags res c }, cycles := s.cycles + 16 }
    let v := s.regs.get8 r
    let m := s.cpuRead s.regs.hl
    (encode (.rotReg .sla r) = [0xCB, 0b00100#5 ++ r.code] ∧
      exec (.rotReg .sla r) s = reg (v.toNat * 2) (v.getLsbD 7)) ∧
    (encode (.rotMem .sla) = [0xCB, 0x26] ∧ exec (.rotMem .sla) s = mem (m.toNat * 2) (m.getLsbD 7)) ∧
    (encode (.rotReg .sra r) = [0xCB, 0b00101#5 ++ r.code] ∧
      exec (.rotReg .sra r) s = reg (v.toNat / 2 + v.toNat / 128 * 128) (v.getLsbD 0)) ∧
    (encode (.rotMem .sra) = [0xCB, 0x2E] ∧
      exec (.rotMem .sra) s = mem (m.toNat / 2 + m.toNat / 128 * 128) (m.getLsbD 0)) ∧
    (encode (.rotReg .swap r) = [0xCB, 0b00110#5 ++ r.code] ∧
      exec (.rotReg .swap r) s = reg (v.toNat % 16 * 16 + v.toNat / 16) false) ∧
    (encode (.rotMem .swap) = [0xCB, 0x36] ∧
      exec (.rotMem .swap) s = mem (m.toNat % 16 * 16 + m.toNat / 16) false) ∧
    (encode (.rotReg .srl r) = [0xCB, 0b00111#5 ++ r.code] ∧
      exec (.rotReg .srl r) s = reg (v.toNat / 2) (v.getLsbD 0)) ∧
    (encode (.rotMem .srl) = [0xCB, 0x3E] ∧ exec (.rotMem .srl) s = mem (m.toNat / 2) (m.getLsbD 0))

/-- R321 to R326: BIT, RES and SET. `res` and `set` are given bit by bit. BIT writes no register but F. -/
def Obligations.BitOperations : Prop :=
  ∀ (s : State) (n : BitNo) (r : R8),
    let v := s.regs.get8 r
    let m := s.cpuRead s.regs.hl
    (encode (.bitReg n r) = [0xCB, 0b01#2 ++ n.code ++ r.code] ∧
      exec (.bitReg n r) s =
        .next { s with
          regs := { s.regs with f := flagByte (!v.getLsbD n.toNat) false true s.regs.fc }
          cycles := s.cycles + 8 }) ∧
    (encode (.bitMem n) = [0xCB, 0b01#2 ++ n.code ++ 0b110#3] ∧
      exec (.bitMem n) s =
        .next { s with
          regs := { s.regs with f := flagByte (!m.getLsbD n.toNat) false true s.regs.fc }
          cycles := s.cycles + 12 }) ∧
    (encode (.resReg n r) = [0xCB, 0b10#2 ++ n.code ++ r.code] ∧
      encode (.resMem n) = [0xCB, 0b10#2 ++ n.code ++ 0b110#3] ∧
      ∀ res : Byte → Byte, (∀ w k, k < 8 → (res w).getLsbD k = (w.getLsbD k && decide (k ≠ n.toNat))) →
        exec (.resReg n r) s = .next { s with regs := s.regs.set8 r (res v), cycles := s.cycles + 8 } ∧
        exec (.resMem n) s = .next { s.cpuWrite s.regs.hl (res m) with regs := s.regs, cycles := s.cycles + 16 }) ∧
    (encode (.setReg n r) = [0xCB, 0b11#2 ++ n.code ++ r.code] ∧
      encode (.setMem n) = [0xCB, 0b11#2 ++ n.code ++ 0b110#3] ∧
      ∀ res : Byte → Byte, (∀ w k, k < 8 → (res w).getLsbD k = (w.getLsbD k || decide (k = n.toNat))) →
        exec (.setReg n r) s = .next { s with regs := s.regs.set8 r (res v), cycles := s.cycles + 8 } ∧
        exec (.setMem n) s = .next { s.cpuWrite s.regs.hl (res m) with regs := s.regs, cycles := s.cycles + 16 })

/-! ### Control transfer -/

/-- R330 to R335: the jumps, taken and not taken. -/
def Obligations.Jumps : Prop :=
  ∀ (s : State) (cc : Cond) (a : Word) (e : Byte),
    let goto (target : Word) (cost : Nat) : Result :=
      .next { s with regs := { s.regs with pc := target }, cycles := s.cycles + cost }
    let stay (cost : Nat) : Result := .next { s with cycles := s.cycles + cost }
    let relative : Word := BitVec.ofInt 16 ((s.regs.pc.toNat : Int) + e.toInt)
    let holds : Bool :=
      match cc with
      | .nz => !s.regs.f.getLsbD 7
      | .z => s.regs.f.getLsbD 7
      | .nc => !s.regs.f.getLsbD 4
      | .c => s.regs.f.getLsbD 4
    (encode (.jp_a16 a) = [0xC3, a.extractLsb' 0 8, a.extractLsb' 8 8] ∧ exec (.jp_a16 a) s = goto a 16) ∧
    (encode (.jpCond cc a) = [0b110#3 ++ cc.code ++ 0b010#3, a.extractLsb' 0 8, a.extractLsb' 8 8] ∧
      exec (.jpCond cc a) s = if holds then goto a 16 else stay 12) ∧
    (encode .jp_hl = [0xE9] ∧ exec .jp_hl s = goto s.regs.hl 4) ∧
    (encode (.jr_e8 e) = [0x18, e] ∧ exec (.jr_e8 e) s = goto relative 12) ∧
    (encode (.jrCond cc e) = [0b001#3 ++ cc.code ++ 0b000#3, e] ∧
      exec (.jrCond cc e) s = if holds then goto relative 12 else stay 8)

/-- R336 to R341: calls, returns and restarts, taken and not taken. RETI sets IME at once and leaves `ei_pending`. -/
def Obligations.CallsAndReturns : Prop :=
  ∀ (s : State) (cc : Cond) (a : Word) (t : RstNo),
    let called (target : Word) (cost : Nat) : Result :=
      .next
        { (s.cpuWrite (s.regs.sp - 1) (s.regs.pc.extractLsb' 8 8)).cpuWrite (s.regs.sp - 2)
            (s.regs.pc.extractLsb' 0 8) with
          regs := { s.regs with sp := s.regs.sp - 2, pc := target }, cycles := s.cycles + cost }
    let returned (cost : Nat) : State :=
      { s with
        regs := { s.regs with sp := s.regs.sp + 2, pc := s.cpuRead (s.regs.sp + 1) ++ s.cpuRead s.regs.sp }
        cycles := s.cycles + cost }
    let stay (cost : Nat) : Result := .next { s with cycles := s.cycles + cost }
    (encode (.call_a16 a) = [0xCD, a.extractLsb' 0 8, a.extractLsb' 8 8] ∧ exec (.call_a16 a) s = called a 24) ∧
    (encode (.callCond cc a) = [0b110#3 ++ cc.code ++ 0b100#3, a.extractLsb' 0 8, a.extractLsb' 8 8] ∧
      exec (.callCond cc a) s = if s.regs.cond cc then called a 24 else stay 12) ∧
    (encode .ret = [0xC9] ∧ exec .ret s = .next (returned 16)) ∧
    (encode (.retCond cc) = [0b110#3 ++ cc.code ++ 0b000#3] ∧
      exec (.retCond cc) s = if s.regs.cond cc then .next (returned 20) else stay 8) ∧
    (encode .reti = [0xD9] ∧ exec .reti s = .next { returned 16 with ime := true }) ∧
    (encode (.rst t) = [0b11#2 ++ t.code ++ 0b111#3] ∧ exec (.rst t) s = called (8 * t.code.setWidth 16) 16)

/-! ### System and control -/

/-- R360 to R366: NOP, HALT, STOP, DI, EI and the unassigned opcodes, under every policy; and PREFIX CB, which does
what the prefixed table's entry for its byte does. -/
def Obligations.SystemInstructions : Prop :=
  ∀ (s : State) (n : Byte) (x : IllegalOp),
    (encode .nop = [0x00] ∧ exec .nop s = .next { s with cycles := s.cycles + 4 }) ∧
    (encode .halt = [0x76] ∧
      exec .halt s =
        if s.ime = false ∧ s.ie.setWidth 5 &&& s.ifBits ≠ 0 ∧ s.params.haltBug = true then
          .next { s with haltBug := true, cycles := s.cycles + 4 }
        else .next { s with runState := .halted, cycles := s.cycles + 4 }) ∧
    (encode (.stop_n8 n) = [0x10, n] ∧
      exec (.stop_n8 n) s =
        .next { s with
          runState := if s.params.stopPolicy = .haltForever then .halted else s.runState, cycles := s.cycles + 4 }) ∧
    (encode .di = [0xF3] ∧
      exec .di s = .next { s with ime := false, eiPending := false, cycles := s.cycles + 4 }) ∧
    (encode .ei = [0xFB] ∧ exec .ei s = .next { s with eiPending := true, cycles := s.cycles + 4 }) ∧
    (encode (.illegal x) = [x.code] ∧
      exec (.illegal x) s =
        .next { s with
          runState := if s.params.illegalPolicy = .lock then .locked else s.runState, cycles := s.cycles + 4 }) ∧
    (encode (.prefix_cb n) = [0xCB, n] ∧ exec (.prefix_cb n) s = exec (cbEntry n) s)

/-- R64, R156, R400: every instruction completes from every state, and none changes a ROM byte or the cartridge, the launch
parameters, the breakpoints, `bp_resume`, the host side, or the count and contents of published frames. -/
def Obligations.EveryInstructionCompletes : Prop :=
  ∀ (i : Instr) (s : State), ∃ t, exec i s = .next t ∧
    t.cart = s.cart ∧ t.params = s.params ∧ t.breakpoints = s.breakpoints ∧ t.bpResume = s.bpResume ∧
    t.host = s.host ∧ t.ppu.frames = s.ppu.frames ∧ t.ppu.front = s.ppu.front ∧ t.ppu.back = s.ppu.back

/-- R23, R25, R26, R27, R28: which instructions write SP, IME, the EI latch, the run state and the HALT bug latch. -/
def Obligations.WritersOfControlState : Prop :=
  ∀ (i : Instr) (s t : State), exec i s = .next t →
    (t.ime ≠ s.ime → i = .di ∨ i = .reti) ∧
    (t.eiPending ≠ s.eiPending → i = .di ∨ i = .ei) ∧
    (t.runState ≠ s.runState → i = .halt ∨ (∃ n, i = .stop_n8 n) ∨ ∃ x, i = .illegal x) ∧
    (t.haltBug ≠ s.haltBug → i = .halt) ∧
    (t.regs.sp ≠ s.regs.sp →
      (∃ n, i = .ldPairImm .sp n) ∨ i = .ld_sp_hl ∨ i = .incPair .sp ∨ i = .decPair .sp ∨ (∃ e, i = .add_sp_e8 e) ∨
      (∃ p, i = .pushPair p) ∨ (∃ p, i = .popPair p) ∨ (∃ a, i = .call_a16 a) ∨ (∃ cc a, i = .callCond cc a) ∨
      (∃ n, i = .rst n) ∨ i = .ret ∨ (∃ cc, i = .retCond cc) ∨ i = .reti)

/-! ### Memory -/

/-- R80 and the regions of R62: what a store leaves unchanged. Every address the store does not reach reads as before; a
store outside the ROM, cartridge RAM, I/O and IE windows changes nothing but the memory; and at any address the registers,
control state, cycles, breakpoints, cartridge, host and parameters are unchanged. -/
def Obligations.StoreFrame : Prop :=
  ∀ (s : State) (a : Word) (v : Byte),
    (∀ b, s.storeReaches a b = false → (s.cpuWrite a v).busRead b = s.busRead b) ∧
    ((0x8000 ≤ a.toNat ∧ a.toNat < 0xA000) ∨ (0xC000 ≤ a.toNat ∧ a.toNat < 0xFF00) ∨ (0xFF80 ≤ a.toNat ∧ a.toNat < 0xFFFF) →
      s.cpuWrite a v = { s with mem := (s.cpuWrite a v).mem }) ∧
    (s.cpuWrite a v).regs = s.regs ∧ (s.cpuWrite a v).ime = s.ime ∧ (s.cpuWrite a v).eiPending = s.eiPending ∧
    (s.cpuWrite a v).runState = s.runState ∧ (s.cpuWrite a v).haltBug = s.haltBug ∧
    (s.cpuWrite a v).bpResume = s.bpResume ∧ (s.cpuWrite a v).cycles = s.cycles ∧
    (s.cpuWrite a v).breakpoints = s.breakpoints ∧ (s.cpuWrite a v).cart = s.cart ∧
    (s.cpuWrite a v).host = s.host ∧ (s.cpuWrite a v).params = s.params

/-- R80: the frame of the storing instructions: the address stored to is computed as the meaning computes it, and every
address the store does not reach reads as before. The first five groups store one byte, at HL, BC, DE, the operand address
and in the I/O page; the others store two, the second after the first. -/
def Obligations.StoringInstructionsFrame : Prop :=
  ∀ (s t : State) (b : Word) (r : R8) (x : Rot) (k : BitNo) (n : Byte) (a : Word) (cc : Cond) (q : R16s) (w : RstNo),
    let single (i : Instr) (target : Word) : Prop :=
      exec i s = .next t → s.storeReaches target b = false → t.busRead b = s.busRead b
    let double (i : Instr) (first : Word) (v : Byte) (second : Word) : Prop :=
      exec i s = .next t → s.storeReaches first b = false → (s.cpuWrite first v).storeReaches second b = false →
        t.busRead b = s.busRead b
    (∀ i ∈ [.ldMemReg r, .ld_mhl_n8 n, .ld_mhli_a, .ld_mhld_a, .inc_mhl, .dec_mhl, .rotMem x, .resMem k, .setMem k],
      single i s.regs.hl) ∧
    single .ld_mbc_a s.regs.bc ∧ single .ld_mde_a s.regs.de ∧ single (.ld_ma16_a a) a ∧
    single (.ldh_ma8_a n) (0xFF00 + n.setWidth 16) ∧ single .ld_mc_a (0xFF00 + s.regs.c.setWidth 16) ∧
    double (.ld_ma16_sp a) a (s.regs.sp.extractLsb' 0 8) (a + 1) ∧
    double (.pushPair q) (s.regs.sp - 1) ((s.regs.get16s q).extractLsb' 8 8) (s.regs.sp - 2) ∧
    (∀ i ∈ [.call_a16 a, .callCond cc a, .rst w],
      double i (s.regs.sp - 1) (s.regs.pc.extractLsb' 8 8) (s.regs.sp - 2))

/-- R65, R67 to R70, R72 to R74, R111: a store to VRAM, WRAM, the echo, OAM, HRAM or IE reads back; WRAM and its echo are one
memory; the unusable range reads 0xFF and ignores writes; IE is at 0xFFFF. -/
def Obligations.StorageReadsBack : Prop :=
  ∀ (s : State) (a : Word) (v : Byte),
    ((0x8000 ≤ a.toNat ∧ a.toNat < 0xA000) ∨ (0xC000 ≤ a.toNat ∧ a.toNat < 0xFEA0) ∨ 0xFF80 ≤ a.toNat →
      (s.busWrite a v).busRead a = v) ∧
    (0xC000 ≤ a.toNat ∧ a.toNat < 0xDE00 → (s.busWrite a v).busRead (a + 0x2000) = v) ∧
    (0xE000 ≤ a.toNat ∧ a.toNat < 0xFE00 → (s.busWrite a v).busRead (a - 0x2000) = v) ∧
    (0xE000 ≤ a.toNat ∧ a.toNat < 0xFE00 → s.busRead a = s.busRead (a - 0x2000)) ∧
    (0xFEA0 ≤ a.toNat ∧ a.toNat < 0xFF00 → s.busRead a = 0xFF ∧ s.busWrite a v = s) ∧
    s.busRead 0xFFFF = s.ie ∧ s.busWrite 0xFFFF v = { s with ie := v }

/-- R71, R75 (reads): the byte each address of the I/O window reads as. -/
def Obligations.IoRegisterReads : Prop :=
  ∀ s : State,
    s.busRead 0xFF00 = 0xC0 ||| (s.p1Sel.setWidth 8 <<< 4) ||| 0x0F ∧
    s.busRead 0xFF01 = s.sb ∧ s.busRead 0xFF02 = 0x7E ||| s.sc ∧
    s.busRead 0xFF04 = s.timer.div.extractLsb' 8 8 ∧ s.busRead 0xFF05 = s.timer.tima ∧
    s.busRead 0xFF06 = s.timer.tma ∧ s.busRead 0xFF07 = 0xF8 ||| s.timer.tac.setWidth 8 ∧
    s.busRead 0xFF0F = 0xE0 ||| s.ifBits.setWidth 8 ∧ s.busRead 0xFF40 = s.ppu.lcdc ∧
    s.busRead 0xFF41 = 0x80 ||| (s.ppu.statW.setWidth 8 <<< 3) |||
      (if s.ppu.lcdc.getLsbD 7 = true then
        (if s.ppu.ly = s.ppu.lyc.toNat then 0x04#8 else 0x00#8) |||
          (match s.ppu.mode with
          | .hblank => 0x00#8
          | .vblank => 0x01#8
          | .searchOam => 0x02#8
          | .drawPixels => 0x03#8)
      else 0x00#8) ∧
    s.busRead 0xFF42 = s.ppu.scy ∧ s.busRead 0xFF43 = s.ppu.scx ∧
    s.busRead 0xFF44 = (if s.ppu.lcdc.getLsbD 7 = true then BitVec.ofNat 8 s.ppu.ly else 0) ∧
    s.busRead 0xFF45 = s.ppu.lyc ∧ s.busRead 0xFF46 = s.ppu.dma ∧ s.busRead 0xFF47 = s.ppu.bgp ∧
    s.busRead 0xFF48 = s.ppu.obp0 ∧ s.busRead 0xFF49 = s.ppu.obp1 ∧ s.busRead 0xFF4A = s.ppu.wy ∧
    s.busRead 0xFF4B = s.ppu.wx ∧ s.busRead 0xFF50 = 0xFF ∧
    (∀ a : Word, 0xFF10 ≤ a.toNat → a.toNat ≤ 0xFF3F → s.busRead a = s.mem.read a.toNat) ∧
    (∀ a : Word, a.toNat = 0xFF03 ∨ (0xFF08 ≤ a.toNat ∧ a.toNat ≤ 0xFF0E) ∨ (0xFF4C ≤ a.toNat ∧ a.toNat ≤ 0xFF4F) ∨
      (0xFF51 ≤ a.toNat ∧ a.toNat ≤ 0xFF7F) →
      s.busRead a = if s.params.ioUnusedPolicy = .storage then s.mem.read a.toNat else 0xFF)

/-- R71, R75 (writes): the effect of a write at each address of the I/O window. DIV, TAC, LCDC and DMA have statements of
their own. -/
def Obligations.IoRegisterWrites : Prop :=
  ∀ (s : State) (v : Byte),
    s.busWrite 0xFF00 v = { s with p1Sel := v.extractLsb' 4 2 } ∧ s.busWrite 0xFF01 v = { s with sb := v } ∧
    s.busWrite 0xFF02 v = { s with sc := v &&& 0x81 } ∧
    s.busWrite 0xFF05 v = { s with timer := { s.timer with tima := v } } ∧
    s.busWrite 0xFF06 v = { s with timer := { s.timer with tma := v } } ∧
    s.busWrite 0xFF0F v = { s with ifBits := v.extractLsb' 0 5 } ∧
    s.busWrite 0xFF41 v = { s with ppu := { s.ppu with statW := v.extractLsb' 3 4 } } ∧
    s.busWrite 0xFF42 v = { s with ppu := { s.ppu with scy := v } } ∧
    s.busWrite 0xFF43 v = { s with ppu := { s.ppu with scx := v } } ∧ s.busWrite 0xFF44 v = s ∧
    s.busWrite 0xFF45 v = { s with ppu := { s.ppu with lyc := v } } ∧
    s.busWrite 0xFF47 v = { s with ppu := { s.ppu with bgp := v } } ∧
    s.busWrite 0xFF48 v = { s with ppu := { s.ppu with obp0 := v } } ∧
    s.busWrite 0xFF49 v = { s with ppu := { s.ppu with obp1 := v } } ∧
    s.busWrite 0xFF4A v = { s with ppu := { s.ppu with wy := v } } ∧
    s.busWrite 0xFF4B v = { s with ppu := { s.ppu with wx := v } } ∧
    s.busWrite 0xFF50 v = { s with bootMapped := s.bootMapped && decide (v = 0) } ∧
    (∀ a : Word, 0xFF10 ≤ a.toNat → a.toNat ≤ 0xFF3F → s.busWrite a v = { s with mem := s.mem.write a.toNat v }) ∧
    (∀ a : Word, a.toNat = 0xFF03 ∨ (0xFF08 ≤ a.toNat ∧ a.toNat ≤ 0xFF0E) ∨ (0xFF4C ≤ a.toNat ∧ a.toNat ≤ 0xFF4F) ∨
      (0xFF51 ≤ a.toNat ∧ a.toNat ≤ 0xFF7F) →
      s.busWrite a v = if s.params.ioUnusedPolicy = .storage then { s with mem := s.mem.write a.toNat v } else s)

/-- R436: the DMA copy: OAM byte `i` is what the bus reads at `v * 0x100 + i` (the whole 160 bytes inside the write), the
register holds `v`, and nothing else of memory or of the machine changes. -/
def Obligations.OamDmaCopy : Prop :=
  ∀ (s : State) (v : Byte),
    let t := s.busWrite 0xFF46 v
    (∀ i : Nat, i < 160 →
      t.busRead (BitVec.ofNat 16 (0xFE00 + i)) =
        ({ s with ppu := { s.ppu with dma := v } } : State).busRead (BitVec.ofNat 16 (v.toNat * 0x100 + i))) ∧
    t.busRead 0xFF46 = v ∧ (∀ k : Nat, k < 0xFE00 ∨ 0xFEA0 ≤ k → t.mem.read k = s.mem.read k) ∧
    t = { s with ppu := { s.ppu with dma := v }, mem := t.mem }

/-- R82: the access lock, by region and mode, and no lock when VRAM_LOCK is false or the LCD is off. -/
def Obligations.AccessLock : Prop :=
  ∀ (s : State) (a : Word) (v : Byte),
    let vram : Prop := 0x8000 ≤ a.toNat ∧ a.toNat ≤ 0x9FFF
    let oam : Prop := 0xFE00 ≤ a.toNat ∧ a.toNat ≤ 0xFE9F
    let blocked : Prop := s.params.vramLock = true ∧ s.ppu.lcdc.getLsbD 7 = true ∧
      ((vram ∧ s.ppu.mode = .drawPixels) ∨ (oam ∧ (s.ppu.mode = .searchOam ∨ s.ppu.mode = .drawPixels)))
    (blocked → s.cpuRead a = 0xFF ∧ s.cpuWrite a v = s) ∧
    (¬ blocked → s.cpuRead a = s.busRead a ∧ s.cpuWrite a v = s.busWrite a v)

/-- R63, R64, R66, R74, R92: the ROM-only mapper: reads past the image, writes, and the cartridge RAM window; and the empty
cartridge slot, whose reads of the ROM window are R522's and whose ignored writes and cartridge RAM window are the model's
reading (log entry 17). -/
def Obligations.RomOnlyMapper : Prop :=
  ∀ (s : State) (a : Word) (v : Byte),
    (∀ c, s.cart = some c → c.mapper = .romOnly → a.toNat < 0x8000 → (s.bootMapped = false ∨ 0x100 ≤ a.toNat) →
      s.busRead a = (if a.toNat < c.romLen then c.rom.read a.toNat else 0xFF) ∧ s.busWrite a v = s) ∧
    (s.cart = none → a.toNat < 0x8000 → (s.bootMapped = false ∨ 0x100 ≤ a.toNat) →
      s.busRead a = 0xFF ∧ s.busWrite a v = s) ∧
    ((∀ c, s.cart = some c → c.mapper = .romOnly) → 0xA000 ≤ a.toNat → a.toNat < 0xC000 →
      s.busRead a = 0xFF ∧ s.busWrite a v = s)

/-- R94, R96, R97, R98: the MBC1 control writes, the ROM banks they select, and the cartridge RAM, read and written. -/
def Obligations.Mbc1Mapper : Prop :=
  ∀ (s : State) (c : Cartridge) (a : Word) (v : Byte), s.cart = some c → c.mapper = .mbc1 →
    let nb := max 2 ((c.romLen + 16383) / 16384)
    let bank :=
      if a.toNat < 0x4000 then (if s.mbc.bankMode then 32 * s.mbc.bankHi.toNat else 0) % nb
      else (32 * s.mbc.bankHi.toNat + s.mbc.bankLo.toNat) % nb
    let off := bank * 0x4000 + a.toNat % 0x4000
    let rbank := if s.mbc.bankMode = true ∧ c.ramSize = 32768 then s.mbc.bankHi.toNat else 0
    let ramOff := (rbank * 0x2000 + (a.toNat - 0xA000)) % c.ramSize
    (a.toNat < 0x8000 → (s.bootMapped = false ∨ 0x100 ≤ a.toNat) →
      s.busRead a = if off < c.romLen then c.rom.read off else 0xFF) ∧
    (0xA000 ≤ a.toNat → a.toNat < 0xC000 →
      (s.mbc.ramEn = true ∧ 0 < c.ramSize →
        s.busRead a = s.cartRam.read ramOff ∧
        s.busWrite a v = { s with cartRam := s.cartRam.write ramOff v } ∧ (s.busWrite a v).busRead a = v) ∧
      (s.mbc.ramEn = false ∨ c.ramSize = 0 → s.busRead a = 0xFF ∧ s.busWrite a v = s)) ∧
    (a.toNat < 0x2000 → s.busWrite a v = { s with mbc := { s.mbc with ramEn := decide (v.toNat % 16 = 0xA) } }) ∧
    (0x2000 ≤ a.toNat ∧ a.toNat < 0x4000 →
      s.busWrite a v =
        { s with mbc := { s.mbc with bankLo := if v.toNat % 32 = 0 then 1 else BitVec.ofNat 5 v.toNat } }) ∧
    (0x4000 ≤ a.toNat ∧ a.toNat < 0x6000 →
      s.busWrite a v = { s with mbc := { s.mbc with bankHi := BitVec.ofNat 2 v.toNat } }) ∧
    (0x6000 ≤ a.toNat ∧ a.toNat < 0x8000 →
      s.busWrite a v = { s with mbc := { s.mbc with bankMode := decide (v.toNat % 2 = 1) } })

/-- R83: the boot ROM overlay: which addresses it covers, that a bus write unmaps it exactly when it is a nonzero write to
BOOT, and that no step maps it again. -/
def Obligations.BootOverlay : Prop :=
  ∀ (s : State) (image : Memory) (a : Word), s.params.bootMode = .bootRom image →
    (s.bootMapped = true → a.toNat < 0x100 → s.busRead a = image.read a.toNat) ∧
    (a.toNat < 0x8000 → (s.bootMapped = false ∨ 0x100 ≤ a.toNat) →
      s.busRead a = ({ s with bootMapped := false } : State).busRead a) ∧
    (∀ v : Byte, s.bootMapped = true → ((s.busWrite a v).bootMapped = false ↔ a = 0xFF50 ∧ v ≠ 0)) ∧
    (∀ t, step s = .next t → t.bootMapped = true → s.bootMapped = true)

/-- The canonical form of memory: a write keeps it, and in it equal contents are equal data. -/
def Obligations.MemoryCanonical : Prop :=
  (∀ (m : Memory) (a : Nat) (v : Byte), m.wf = true → (m.write a v).wf = true) ∧
  (∀ (m : Memory) (a b : Nat) (v : Byte), (m.write a v).read b = if b = a then v else m.read b) ∧
  (∀ m₁ m₂ : Memory, m₁.wf = true → m₂.wf = true → (∀ a, m₁.read a = m₂.read a) → m₁ = m₂)

/-- R77: in WRAM, a pushed word pops back and the low byte lies at the lower address. -/
def Obligations.StackRoundTrip : Prop :=
  ∀ (s : State) (v : Word), 0xC002 ≤ s.regs.sp.toNat → s.regs.sp.toNat ≤ 0xE000 →
    (s.push16 v).regs.sp = s.regs.sp - 2 ∧ (s.push16 v).popValue = v ∧ (s.push16 v).pop16.regs.sp = s.regs.sp ∧
    (s.push16 v).busRead (s.regs.sp - 2) = v.extractLsb' 0 8 ∧ (s.push16 v).busRead (s.regs.sp - 1) = v.extractLsb' 8 8

/-! ### The Update -/

/-- R150: a step runs the decoded instruction: at an instruction point (running, no dispatch due, no breakpoint hit, no
HALT-bug repeat), when the bytes at the PC decode to `i`, the step is `exec i` at the state with the PC past the
instruction and the EI latch moved into IME, and then the devices advance by the cycles it spent. That the bytes are
fetched through the access lock (`cpuRead`) is the model's reading (log entry 1), and so is the form of the advance (log
entry 11). -/
def Obligations.StepRunsDecoded : Prop :=
  ∀ (s t : State) (i : Instr) (rest : List Byte),
    s.runState = .running → (s.ime = false ∨ s.pending = 0) → s.breakpointHit = false → s.haltBug = false →
    decode [s.cpuRead s.regs.pc, s.cpuRead (s.regs.pc + 1), s.cpuRead (s.regs.pc + 2)] = .ok (i, rest) →
    exec i
        { s with
          bpResume := false, ime := s.ime || s.eiPending, eiPending := false
          regs := { s.regs with pc := s.regs.pc + BitVec.ofNat 16 (3 - rest.length) } } = .next t →
      i.wellFormed = true ∧ step s = .next (t.advance (t.cycles - s.cycles))

/-- R150, R404, R465: the other Updates: paused, locked, halted, dispatch, breakpoint. -/
def Obligations.UpdateWithoutInstruction : Prop :=
  ∀ s : State,
    (s.runState = .breakpointPaused → step s = .next s) ∧
    (s.runState = .locked → step s = .next { s.advance 4 with cycles := s.cycles + 4 }) ∧
    (s.runState = .halted → s.ie.setWidth 5 &&& s.ifBits = 0 →
      step s = .next { s.advance 4 with cycles := s.cycles + 4 }) ∧
    (s.runState = .halted → s.ie.setWidth 5 &&& s.ifBits ≠ 0 →
      step s = .next { s.advance 4 with runState := .running, cycles := s.cycles + 4 }) ∧
    (s.runState = .running → (s.ime = false ∨ s.ie.setWidth 5 &&& s.ifBits = 0) → s.bpResume = false →
      (∃ b ∈ s.breakpoints, b.addr = s.regs.pc ∧ b.cond = none) →
      step s = .next { s with runState := .breakpointPaused })

/-- R401, R404, R406, R407: a running CPU with IME set and an interrupt pending dispatches the lowest pending source: its
request is cleared, IME and the EI latch are cleared, the PC is pushed, high byte first, the PC takes the vector
`0x0040 + 8 * i`, and 20 cycles pass. -/
def Obligations.DispatchEntry : Prop :=
  ∀ s : State, s.runState = .running → s.ime = true → s.ie.setWidth 5 &&& s.ifBits ≠ 0 →
    ∃ i : Nat, i < 5 ∧ (s.ie.setWidth 5 &&& s.ifBits).getLsbD i = true ∧
      (∀ j, j < i → (s.ie.setWidth 5 &&& s.ifBits).getLsbD j = false) ∧
      ∃ cleared : BitVec 5, (∀ j, j < 5 → cleared.getLsbD j = (s.ifBits.getLsbD j && decide (j ≠ i))) ∧
        let entered : State :=
          { (({ s with ifBits := cleared, ime := false, eiPending := false } : State).cpuWrite (s.regs.sp - 1)
              (s.regs.pc.extractLsb' 8 8)).cpuWrite (s.regs.sp - 2) (s.regs.pc.extractLsb' 0 8) with
            regs := { s.regs with sp := s.regs.sp - 2, pc := BitVec.ofNat 16 (0x0040 + 8 * i) } }
        step s = .next { entered.advance 20 with cycles := s.cycles + 20 }

/-- R26, R364, R531: after EI the next instruction always executes before any dispatch: with the latch set and IME clear, a
running CPU at no breakpoint executes an instruction whatever is pending, and it executes with IME set and the latch
clear. -/
def Obligations.EiDelay : Prop :=
  ∀ s : State, s.runState = .running → s.ime = false → s.eiPending = true → s.breakpointHit = false →
    step s = executeOne { s with bpResume := false, ime := true, eiPending := false } ∧
    (s.haltBug = false → s.cpuRead s.regs.pc = 0xF3 →
      ∃ t, step s = .next t ∧ t.ime = false ∧ t.eiPending = false) ∧
    (s.haltBug = false → s.cpuRead s.regs.pc = 0x00 →
      ∃ t, step s = .next t ∧ t.ime = true ∧ t.eiPending = false ∧ t.regs.pc = s.regs.pc + 1)

/-- R28, R143, R150, R151, R161, R164: the fetch reads the opcode at the PC and then its `skip` operand bytes, and moves the PC past
them; while the HALT bug latch is set the opcode's fetch does not advance the PC and clears the latch, so exactly one byte
is read twice. A fetch consumes as many bytes as the disassembler's record has, and where the access lock hides none of the
instruction's bytes it decodes the entry that the disassembler's record at the PC is formatted from. That the fetch goes through the access
lock (`cpuRead`) is the model's reading (log entry 1). -/
def Obligations.FetchedBytes : Prop :=
  ∀ s : State,
    let op := s.cpuRead s.regs.pc
    (s.haltBug = false →
      let b1 := s.cpuRead (s.regs.pc + 1)
      let b2 := s.cpuRead (s.regs.pc + 2)
      s.fetch = (decodeOp op (if skip op = 0 then 0 else b1) (if skip op = 2 then b2 else 0),
        { s with regs := { s.regs with pc := s.regs.pc + BitVec.ofNat 16 (1 + skip op) } })) ∧
    (s.haltBug = true →
      s.fetch = (decodeOp op (if skip op = 0 then 0 else op) (if skip op = 2 then s.cpuRead (s.regs.pc + 1) else 0),
        { s with haltBug := false, regs := { s.regs with pc := s.regs.pc + BitVec.ofNat 16 (skip op) } })) ∧
    (s.haltBug = false → (∀ k : Nat, k ≤ skip op → s.locked (s.regs.pc + BitVec.ofNat 16 k) = false) →
      s.fetch.1 = s.disEntry s.regs.pc.toNat) ∧
    ∀ a : Word, (s.disRecord a.toNat).length = 1 + skip (s.busRead a)

/-- R155, R156, R400, R488, R551: a step always answers a next state, and the cycles it spends are a multiple of 4, at
most 24, and 0 only where the CPU is or becomes paused at a breakpoint. -/
def Obligations.StepAlwaysAnswers : Prop :=
  ∀ s : State, ∃ t, step s = .next t ∧ s.cycles ≤ t.cycles ∧ t.cycles - s.cycles ≤ 24 ∧ (t.cycles - s.cycles) % 4 = 0 ∧
    (t.cycles = s.cycles → t = { s with runState := .breakpointPaused })

/-- R463, R471, R485: the host's palette, pause flag and running mode change nothing in the core: a step from a state that
differs only there gives the same next state but for them. -/
def Obligations.HostSideInvisible : Prop :=
  ∀ (s t : State) (h : HostSide), step s = .next t → step { s with host := h } = .next { t with host := h }

/-! ### The timer -/

/-- R421, R422, R423, R427: DIV counts T-cycles modulo 2^16; and with the timer enabled and no overflow on the way, TIMA
goes up once per period of the selected bit, counted from the phase of `div_counter`. -/
def Obligations.TimerCounts : Prop :=
  ∀ (s : State) (n : Nat),
    (s.advance n).timer.div.toNat = (s.timer.div.toNat + n) % 65536 ∧
    let period : Nat :=
      match (s.timer.tac.setWidth 2).toNat with
      | 0 => 1024
      | 1 => 16
      | 2 => 64
      | _ => 256
    let ticks := (s.timer.div.toNat % period + n) / period
    (s.timer.tac.getLsbD 2 = true → s.timer.tima.toNat + ticks ≤ 0xFF →
      (s.advance n).timer.tima.toNat = s.timer.tima.toNat + ticks) ∧
    (s.timer.tac.getLsbD 2 = false → (s.advance n).timer.tima = s.timer.tima)

/-- R421, R422, R424, R425, R426: a write to DIV clears it, and a write to TAC stores `v[2:0]`; TIMA is incremented once
exactly when the timer signal falls from 1 to 0; an increment at 0xFF reloads TIMA from TMA and requests interrupt 2, and
any other adds 1 and requests nothing. -/
def Obligations.TimerWriteEdge : Prop :=
  ∀ (s : State) (v : Byte),
    let k (tac : BitVec 3) : Nat :=
      match (tac.setWidth 2).toNat with
      | 0 => 9
      | 1 => 3
      | 2 => 5
      | _ => 7
    let signal (t : Timer) : Bool := t.tac.getLsbD 2 && t.div.getLsbD (k t.tac)
    let written (t : Timer) : State :=
      if signal s.timer = true ∧ signal t = false then
        if t.tima = 0xFF then { s with timer := { t with tima := t.tma }, ifBits := s.ifBits ||| 0b00100 }
        else { s with timer := { t with tima := BitVec.ofNat 8 (t.tima.toNat + 1) } }
      else { s with timer := t }
    s.busWrite 0xFF04 v = written { s.timer with div := 0 } ∧
    s.busWrite 0xFF07 v = written { s.timer with tac := BitVec.ofNat 3 v.toNat } ∧
    s.timerTick = written { s.timer with div := BitVec.ofNat 16 (s.timer.div.toNat + 1) }

/-- R154, R401, R402, R430, R431: the devices change nothing but interrupt requests, the timer and the PPU; they clear no
request, and never request the serial or the joypad interrupt. -/
def Obligations.DevicesOnlyRequest : Prop :=
  ∀ (n : Nat) (s : State) (i : Nat),
    s.advance n =
      { s with ifBits := (s.advance n).ifBits, timer := (s.advance n).timer, ppu := (s.advance n).ppu } ∧
    (s.ifBits.getLsbD i = true → (s.advance n).ifBits.getLsbD i = true) ∧
    (s.advance n).ifBits.getLsbD 3 = s.ifBits.getLsbD 3 ∧ (s.advance n).ifBits.getLsbD 4 = s.ifBits.getLsbD 4

/-! ### The PPU -/

/-- R448, R449, R450: with the LCD on, n T-cycles move the position n dots through a frame of 70,224, and the mode is the
one R448's table gives the new line and dot. -/
def Obligations.PpuPositionAdvances : Prop :=
  ∀ (n : Nat) (s : State), s.ppu.Inv → s.ppu.lcdOn = true →
    (s.advance n).ppu.position = (s.ppu.position + n) % 70224 ∧
    let t := s.advance n
    t.ppu.mode =
      if 144 ≤ t.ppu.ly then .vblank
      else if t.ppu.dot < 80 then .searchOam
      else if t.ppu.dot < 252 then .drawPixels
      else .hblank

/-- R451, R454: VBlank timing: the number of frames published in n T-cycles is the number of times the position reaches
(line 144, dot 0), which is dot 65,664 of 70,224; while none is published the front buffer does not change,
and the T-cycle that publishes one copies the back buffer to the front. -/
def Obligations.FramesPublished : Prop :=
  ∀ (n : Nat) (s : State), s.ppu.Inv → s.ppu.lcdOn = true →
    (s.advance n).ppu.frames + (s.ppu.position + 4560) / 70224 = s.ppu.frames + (s.ppu.position + 4560 + n) / 70224 ∧
    ((s.advance n).ppu.frames = s.ppu.frames → (s.advance n).ppu.front = s.ppu.front) ∧
    ((s.advance (n + 1)).ppu.frames ≠ (s.advance n).ppu.frames →
      (s.advance (n + 1)).ppu.front = (s.advance n).ppu.back) ∧
    ((s.advance n).ppu.frames ≠ s.ppu.frames → (s.advance n).ifBits.getLsbD 0 = true)

/-- R448, R453: the STAT interrupt: a dot requests interrupt 1 exactly when the OR of the four selected conditions, at the
new position, is 1 and the STAT line was 0. -/
def Obligations.StatRisingEdge : Prop :=
  ∀ s : State, s.ppu.lcdOn = true →
    let p := s.ppu.nextDot
    let line : Bool :=
      (p.statW.getLsbD 3 && decide (p.ly = p.lyc.toNat)) || (p.statW.getLsbD 2 && p.mode == .searchOam) ||
        (p.statW.getLsbD 1 && p.mode == .vblank) || (p.statW.getLsbD 0 && p.mode == .hblank)
    s.ppuTick.ppu.statLine = line ∧
    s.ppuTick.ifBits.getLsbD 1 = (s.ifBits.getLsbD 1 || (line && !s.ppu.statLine))

/-- R440, R455: a write to LCDC stores the byte; off puts the PPU at line 0, dot 0, mode 0 with a low STAT line; on puts
it at line 0, dot 0, mode 2 with window row 0 and one evaluation of the STAT line; otherwise nothing else changes. -/
def Obligations.LcdOnAndOff : Prop :=
  ∀ (s : State) (v : Byte),
    (s.ppu.lcdc.getLsbD 7 = v.getLsbD 7 → s.busWrite 0xFF40 v = { s with ppu := { s.ppu with lcdc := v } }) ∧
    (s.ppu.lcdc.getLsbD 7 = true → v.getLsbD 7 = false →
      s.busWrite 0xFF40 v =
        { s with ppu := { s.ppu with lcdc := v, ly := 0, dot := 0, mode := .hblank, statLine := false } }) ∧
    (s.ppu.lcdc.getLsbD 7 = false → v.getLsbD 7 = true →
      let line : Bool := (s.ppu.statW.getLsbD 3 && decide (s.ppu.lyc = 0)) || s.ppu.statW.getLsbD 2
      s.busWrite 0xFF40 v =
        { s with
          ifBits := if line = true ∧ s.ppu.statLine = false then s.ifBits ||| 0b00010 else s.ifBits
          ppu := { s.ppu with
            lcdc := v, ly := 0, dot := 0, mode := .searchOam, winLine := 0, statLine := line } })

/-- R449, R456, R460, R461: a visible line is drawn at its mode 3 to mode 0 change: that dot replaces row `ly` of the back
buffer with 160 pixels and no other row, and any other dot leaves the back buffer. The pixel at `x` is the background shade
(BackgroundPixel) unless, with LCDC bit 1 set, an object wins there: the first in the drawing order (ObjectSelection) whose
columns contain `x` and whose colour index there is not 0. -/
def Obligations.LineRenderedAtHblank : Prop :=
  ∀ s : State, s.ppu.Inv → s.ppu.lcdOn = true →
    (s.ppu.ly < 144 ∧ s.ppu.dot = 251 →
      s.ppuTick.ppu.back = s.ppu.back.set s.ppu.ly s.lineShades ∧ s.lineShades.length = 160 ∧
      s.ppuTick.ppu.back[s.ppu.ly]? = some s.lineShades) ∧
    (¬ (s.ppu.ly < 144 ∧ s.ppu.dot = 251) → s.ppuTick.ppu.back = s.ppu.back) ∧
    ∀ x : Nat, x < 160 →
      let p := s.ppu
      let h : Nat := if p.lcdc.getLsbD 2 then 16 else 8
      let colour (o : Obj) : Nat :=
        let top : Int := (o.y.toNat : Int) - 16
        let row : Nat := if o.attr.getLsbD 6 then (h - 1 - ((p.ly : Int) - top)).toNat else ((p.ly : Int) - top).toNat
        let left : Int := (o.x.toNat : Int) - 8
        let col : Nat := if o.attr.getLsbD 5 then (7 - ((x : Int) - left)).toNat else ((x : Int) - left).toNat
        let tile : Nat := if h = 16 then (o.tile &&& 0xFE).toNat + (if 8 ≤ row then 1 else 0) else o.tile.toNat
        let bytes : Nat := 0x8000 + 16 * tile + 2 * (if h = 16 then row % 8 else row)
        2 * ((s.mem.read (bytes + 1)).getLsbD (7 - col)).toNat + ((s.mem.read bytes).getLsbD (7 - col)).toNat
      let covers (o : Obj) : Bool := decide ((o.x.toNat : Int) - 8 ≤ x) && decide (x < o.x.toNat)
      let bg := p.bgShade (s.bgColour x)
      s.lineShades[x]? =
        match p.lcdc.getLsbD 1, s.drawOrder.find? fun o => covers o && decide (colour o ≠ 0) with
        | true, some o =>
          some (if o.attr.getLsbD 7 = true ∧ s.bgColour x ≠ 0 then bg
            else (if o.attr.getLsbD 4 then p.obp1 else p.obp0).extractLsb' (2 * colour o) 2)
        | _, _ => some bg

/-- R445, R457, R458: the background and window pixel at column `x`: its colour index from the tile map and the tile data,
and its base shade through BGP; both 0 while LCDC bit 0 is 0. -/
def Obligations.BackgroundPixel : Prop :=
  ∀ (s : State) (x : Nat), x < 160 →
    let p := s.ppu
    let window : Bool := p.lcdc.getLsbD 5 && decide (p.wy.toNat ≤ p.ly) && decide (p.wx.toNat ≤ 166) &&
      decide ((p.wx.toNat : Int) - 7 ≤ x)
    let px : Nat := if window then ((x : Int) - ((p.wx.toNat : Int) - 7)).toNat else (p.scx.toNat + x) % 256
    let py : Nat := if window then p.winLine else (p.scy.toNat + p.ly) % 256
    let mapBit : Bool := if window then p.lcdc.getLsbD 6 else p.lcdc.getLsbD 3
    let t := s.mem.read ((if mapBit then 0x9C00 else 0x9800) + py / 8 * 32 + px / 8)
    let tile : Nat :=
      if p.lcdc.getLsbD 4 then 0x8000 + 16 * t.toNat
      else if t.toNat < 128 then 0x9000 + 16 * t.toNat else 0x8000 + 16 * t.toNat
    let lo := s.mem.read (tile + 2 * (py % 8))
    let hi := s.mem.read (tile + 2 * (py % 8) + 1)
    let index : Nat := 2 * (hi.getLsbD (7 - px % 8)).toNat + (lo.getLsbD (7 - px % 8)).toNat
    (p.lcdc.getLsbD 0 = true →
      (s.bgColour x).toNat = index ∧ p.bgShade (s.bgColour x) = p.bgp.extractLsb' (2 * index) 2) ∧
    (p.lcdc.getLsbD 0 = false → s.bgColour x = 0 ∧ p.bgShade (s.bgColour x) = 0)

/-- R459, R460: object selection and priority: the selected objects are the first at most 10, in OAM order, of the 40 records
with `byte0 - 16 ≤ ly < byte0 - 16 + h`; the drawing order is a permutation of the selection, with X bytes ascending and
equal X bytes in OAM order. -/
def Obligations.ObjectSelection : Prop :=
  ∀ s : State,
    let byte (j k : Nat) : Byte := s.mem.read (0xFE00 + 4 * j + k)
    let height : Int := if s.ppu.lcdc.getLsbD 2 then 16 else 8
    let onLine (j : Nat) : Bool :=
      decide (((byte j 0).toNat : Int) - 16 ≤ s.ppu.ly) && decide ((s.ppu.ly : Int) < (byte j 0).toNat - 16 + height)
    s.lineObjects =
      (((List.range 40).filter onLine).take 10).map (fun j => ⟨byte j 0, byte j 1, byte j 2, byte j 3⟩) ∧
    s.lineObjects.length ≤ 10 ∧
    s.drawOrder.Perm s.lineObjects ∧ s.drawOrder.Pairwise (fun o p => o.x.toNat ≤ p.x.toNat) ∧
    ∀ x : Byte, s.drawOrder.filter (fun o => o.x == x) = s.lineObjects.filter (fun o => o.x == x)

/-! ### Reset, loading and the host -/

/-- R36, R38, R520, R521, R522: the reset state: the CPU values of R36, and the byte each register of R38 reads back as. -/
def Obligations.ResetValues : Prop :=
  let s := State.reset
  s.regs = { a := 0x01, f := 0xB0, b := 0x00, c := 0x13, d := 0x00, e := 0xD8, h := 0x01, l := 0x4D, sp := 0xFFFE,
             pc := 0x0100 } ∧
  s.ime = false ∧ s.eiPending = false ∧ s.runState = .running ∧ s.haltBug = false ∧ s.bpResume = false ∧
  s.cycles = 0 ∧ s.breakpoints = [] ∧ s.cart = none ∧ s.bootMapped = false ∧
  (∀ k, s.mem.read k = 0x00 ∧ s.cartRam.read k = 0x00) ∧
  s.mbc = { ramEn := false, bankLo := 1, bankHi := 0, bankMode := false } ∧
  s.timer = { div := 0xABCC, tima := 0x00, tma := 0x00, tac := 0b000 } ∧ s.ifBits = 0b00001 ∧ s.ie = 0x00 ∧
  s.p1Sel = 0b00 ∧ s.sb = 0x00 ∧ s.sc = 0x00 ∧
  s.ppu.lcdc = 0x91 ∧ s.ppu.statW = 0 ∧ s.ppu.scy = 0 ∧ s.ppu.scx = 0 ∧ s.ppu.lyc = 0 ∧ s.ppu.wy = 0 ∧ s.ppu.wx = 0 ∧
  s.ppu.ly = 0 ∧ s.ppu.dot = 0 ∧ s.ppu.mode = .searchOam ∧ s.ppu.winLine = 0 ∧ s.ppu.statLine = false ∧
  s.ppu.dma = 0xFF ∧ s.ppu.bgp = 0xFC ∧ s.ppu.obp0 = 0xFF ∧ s.ppu.obp1 = 0xFF ∧ s.ppu.frames = 0 ∧
  s.ppu.back = List.replicate 144 (List.replicate 160 0) ∧ s.ppu.front = List.replicate 144 (List.replicate 160 0) ∧
  s.busRead 0xFF00 = 0xCF ∧ s.busRead 0xFF02 = 0x7E ∧ s.busRead 0xFF04 = 0xAB ∧ s.busRead 0xFF07 = 0xF8 ∧
  s.busRead 0xFF0F = 0xE1 ∧ s.busRead 0xFF41 = 0x86 ∧ s.busRead 0xFF44 = 0x00 ∧ s.busRead 0xFF50 = 0xFF ∧
  step s = .next
    { s with
      cycles := 16, mem := [(0xFFFC, 0x01), (0xFFFD, 0x01)]
      regs := { s.regs with pc := 0x0038, sp := 0xFFFC }
      timer := { s.timer with div := 0xABDC }, ppu := { s.ppu with dot := 16 } }

/-- R37, R520, R524: Reset keeps the cartridge, the breakpoints, the host side and the parameters, and no other field of
the state before it has any influence; in BOOT_MODE `boot_rom` the registers are 0 and the boot ROM is mapped. -/
def Obligations.ResetForgets : Prop :=
  ∀ s t : State,
    (s.params = t.params → s.cart = t.cart → s.breakpoints = t.breakpoints → s.host = t.host →
      s.hostReset = t.hostReset) ∧
    s.hostReset.params = s.params ∧ s.hostReset.cart = s.cart ∧ s.hostReset.breakpoints = s.breakpoints ∧
    s.hostReset.host = s.host ∧ s.hostReset.hostReset = s.hostReset ∧
    (s.params.bootMode = .skip → s.hostReset =
      { State.reset with params := s.params, cart := s.cart, breakpoints := s.breakpoints, host := s.host }) ∧
    (∀ image, s.params.bootMode = .bootRom image → s.hostReset =
      { State.reset with
        params := s.params, cart := s.cart, breakpoints := s.breakpoints, host := s.host, bootMapped := true
        regs := { a := 0, f := 0, b := 0, c := 0, d := 0, e := 0, h := 0, l := 0, sp := 0, pc := 0 } })

/-- R90 to R95: a successful load: the mapper by the type byte under MAPPER `auto`, the hash of the whole file, the installed
bytes, and then the reset state. -/
def Obligations.LoadedCartridge : Prop :=
  ∀ (s t : State) (file : List Byte), s.params.mapper = .auto → s.loadFromFile (some file) = .ok t →
    ∃ c, t = ({ s with cart := some c } : State).hostReset ∧ c.hash = Config.hashFn file ∧
      (c.mapper = .romOnly ↔ file.getD 0x147 0 = 0x00) ∧
      (c.mapper = .mbc1 ↔ file.getD 0x147 0 = 0x01 ∨ file.getD 0x147 0 = 0x02 ∨ file.getD 0x147 0 = 0x03) ∧
      (c.mapper = .romOnly → c.romLen = min file.length 32768) ∧
      (c.mapper = .mbc1 → c.romLen = file.length ∧ file.length ≤ 2097152) ∧
      (c.ramSize = 0 ∨ c.ramSize = 2048 ∨ c.ramSize = 8192 ∨ c.ramSize = 32768) ∧
      ∀ k, k < c.romLen → c.rom.read k = file.getD k 0

/-- R480, R481, R29: breakpoints: adding returns the old length and the index removes it again; removing an index in range
moves the later elements down one, and an index out of range fails; and a Step of a running emulator paused at a breakpoint
(what counts as paused is log entry 9), with no dispatch due, executes the one instruction at the PC with the breakpoint left
and skipped, and leaves the emulator paused. -/
def Obligations.BreakpointControl : Prop :=
  ∀ (s : State) (bp : Breakpoint) (i : Nat),
    (s.addBreakpoint bp).2 = s.breakpoints.length ∧
    (s.addBreakpoint bp).1.breakpoints[s.breakpoints.length]? = some bp ∧
    (s.addBreakpoint bp).1.removeBreakpoint s.breakpoints.length = .ok s ∧
    (i < s.breakpoints.length →
      s.removeBreakpoint i = .ok { s with breakpoints := s.breakpoints.take i ++ s.breakpoints.drop (i + 1) }) ∧
    (s.breakpoints.length ≤ i → s.removeBreakpoint i = .error .breakpointIndexOutOfRange) ∧
    (s.isRunning = true → s.runState = .breakpointPaused → (s.ime = false ∨ s.pending = 0) →
      ∃ t,
        executeOne
            { s with runState := .running, bpResume := false, ime := s.ime || s.eiPending, eiPending := false } = .next t ∧
        s.stepOnce = .ok (.next { t with host := { s.host with paused := true } }) ∧
        t.bpResume = false ∧ s.cycles + 4 ≤ t.cycles)

/-- R488: a run to N ends at the first Update boundary with `cycles ≥ N`, or at a breakpoint, and overshoots N by less than
one Update's largest cost. -/
def Obligations.RunToOvershoot : Prop :=
  ∀ (s : State) (n : Nat), ∃ t, s.runTo n = .next t ∧ (n ≤ t.cycles ∨ t.runState = .breakpointPaused) ∧
    t.cycles < n + 24

/-- R160, R161, R162: the disassembler's records: the first is at the start of the range, each next one begins where the one
before ends, none passes the end, and the walk stops only where the next instruction would pass the end. -/
def Obligations.DisassemblyWalk : Prop :=
  ∀ (s : State) (first last : Nat), first ≤ last → last ≤ 0x10000 →
    let out := s.disassemble first last
    (out = [] → first = last ∨ last < first + 1 + skip (s.busRead (BitVec.ofNat 16 first))) ∧
    (∀ r, out[0]? = some r → r.addr = first) ∧
    (∀ i r q, out[i]? = some r → out[i + 1]? = some q → q.addr = r.addr + r.length) ∧
    (∀ r ∈ out, r = s.disRecord r.addr ∧ first ≤ r.addr ∧ r.addr + r.length ≤ last) ∧
    (∀ r, out.getLast? = some r → r.addr + r.length = last ∨
      last < r.addr + r.length + 1 + skip (s.busRead (BitVec.ofNat 16 (r.addr + r.length))))

/-! ### The invariant -/

/-- The invariant holds at reset, and after every reset of a state whose cartridge is canonical. -/
def Obligations.ResetHasInvariant : Prop :=
  State.reset.Inv ∧
  ∀ s : State, (∀ c, s.cart = some c → c.rom.wf = true ∧ ∀ cell ∈ c.rom, cell.1 < c.romLen) → s.hostReset.Inv

/-- Every step keeps the invariant. -/
def Obligations.StepKeepsInvariant : Prop :=
  ∀ s t : State, s.Inv → step s = .next t → t.Inv
end

