-- ==== Sys2Proof/Laws/Memory.lean ====
section
/-! SUPPORT. The laws of a `Memory`: what a read gives after a write, and that every operation keeps the canonical form. -/

namespace Sys2Proof.Machine

theorem Memory.read_erase (m : Memory) (a b : Nat) :
    (Memory.erase m a).read b = if b = a then Config.ramInit else m.read b := by
  induction m with
  | nil => simp [Memory.erase, Memory.read]
  | cons cell rest ih =>
    by_cases h : cell.1 = a
    · rw [Memory.erase, if_pos h, ih]
      by_cases hb : b = a
      · rw [if_pos hb, if_pos hb]
      · rw [if_neg hb, if_neg hb, Memory.read, if_neg (by omega)]
    · rw [Memory.erase, if_neg h, Memory.read, Memory.read]
      by_cases hb : cell.1 = b
      · rw [if_pos hb, if_neg (by omega), if_pos hb]
      · rw [if_neg hb, ih, if_neg hb]

theorem Memory.read_insert (m : Memory) (a b : Nat) (v : Byte) (h : ∀ cell ∈ m, cell.1 ≠ a) :
    (Memory.insert m a v).read b = if b = a then v else m.read b := by
  induction m with
  | nil =>
    by_cases hb : b = a
    · simp [Memory.insert, Memory.read, hb]
    · have : ¬ a = b := fun e => hb e.symm
      simp [Memory.insert, Memory.read, hb, this]
  | cons cell rest ih =>
    have hc : cell.1 ≠ a := h cell (by simp)
    have ih := ih fun c hc => h c (by simp [hc])
    by_cases hlt : a < cell.1
    · rw [Memory.insert, if_pos hlt, Memory.read]
      by_cases hb : b = a
      · rw [if_pos hb.symm, if_pos hb]
      · rw [if_neg (by omega), if_neg hb]
    · rw [Memory.insert, if_neg hlt, Memory.read, Memory.read]
      by_cases hb : cell.1 = b
      · rw [if_pos hb, if_neg (by omega), if_pos hb]
      · rw [if_neg hb, ih, if_neg hb]

theorem Memory.mem_erase {m : Memory} {a : Nat} {cell : Host.Cell} (h : cell ∈ Memory.erase m a) :
    cell ∈ m ∧ cell.1 ≠ a := by
  induction m with
  | nil => simp [Memory.erase] at h
  | cons c rest ih =>
    by_cases hc : c.1 = a
    · rw [Memory.erase, if_pos hc] at h
      exact ⟨by simp [(ih h).1], (ih h).2⟩
    · rw [Memory.erase, if_neg hc] at h
      rcases List.mem_cons.mp h with rfl | h
      · exact ⟨by simp, hc⟩
      · exact ⟨by simp [(ih h).1], (ih h).2⟩

theorem Memory.mem_insert {m : Memory} {a : Nat} {v : Byte} {cell : Host.Cell} (h : cell ∈ Memory.insert m a v) :
    cell = (a, v) ∨ cell ∈ m := by
  induction m with
  | nil => simpa [Memory.insert] using h
  | cons c rest ih =>
    by_cases hc : a < c.1
    · rw [Memory.insert, if_pos hc] at h
      simpa using h
    · rw [Memory.insert, if_neg hc] at h
      rcases List.mem_cons.mp h with rfl | h
      · simp
      · rcases ih h with h | h
        · exact .inl h
        · exact .inr (by simp [h])

/-- A read after a write: the byte written at its key, the old byte elsewhere (R111). -/
theorem Memory.read_write (m : Memory) (a b : Nat) (v : Byte) :
    (m.write a v).read b = if b = a then v else m.read b := by
  unfold Memory.write
  split
  · next h => rw [Memory.read_erase, h]
  · rw [Memory.read_insert _ _ _ _ fun c hc => (Memory.mem_erase hc).2, Memory.read_erase]
    split <;> simp_all

@[simp] theorem Memory.read_write_same (m : Memory) (a : Nat) (v : Byte) : (m.write a v).read a = v := by
  simp [Memory.read_write]

theorem Memory.read_write_other (m : Memory) {a b : Nat} (v : Byte) (h : b ≠ a) : (m.write a v).read b = m.read b := by
  simp [Memory.read_write, h]

/-- A write adds no key but its own. -/
theorem Memory.mem_write {m : Memory} {a : Nat} {v : Byte} {cell : Host.Cell} (h : cell ∈ m.write a v) :
    cell.1 = a ∨ cell ∈ m := by
  unfold Memory.write at h
  split at h
  · exact .inr (Memory.mem_erase h).1
  · rcases Memory.mem_insert h with rfl | h
    · exact .inl rfl
    · exact .inr (Memory.mem_erase h).1

/-! ### The canonical form -/

theorem Memory.wfFrom_mono {m : Memory} {lo hi : Nat} (h : lo ≤ hi) (hm : Memory.wfFrom hi m = true) :
    Memory.wfFrom lo m = true := by
  cases m with
  | nil => rfl
  | cons cell rest =>
    simp only [Memory.wfFrom, Bool.and_eq_true, decide_eq_true_eq] at hm ⊢
    exact ⟨⟨by omega, hm.1.2⟩, hm.2⟩

theorem Memory.wfFrom_erase {m : Memory} {lo : Nat} (a : Nat) (h : Memory.wfFrom lo m = true) :
    Memory.wfFrom lo (Memory.erase m a) = true := by
  induction m generalizing lo with
  | nil => rfl
  | cons cell rest ih =>
    simp only [Memory.wfFrom, Bool.and_eq_true, decide_eq_true_eq] at h
    by_cases hc : cell.1 = a
    · rw [Memory.erase, if_pos hc]
      exact Memory.wfFrom_mono (by omega) (ih h.2)
    · rw [Memory.erase, if_neg hc]
      simp only [Memory.wfFrom, Bool.and_eq_true, decide_eq_true_eq]
      exact ⟨h.1, ih h.2⟩

theorem Memory.wfFrom_insert {m : Memory} {lo a : Nat} {v : Byte} (h : Memory.wfFrom lo m = true) (hlo : lo ≤ a)
    (hv : v ≠ Config.ramInit) (hm : ∀ cell ∈ m, cell.1 ≠ a) : Memory.wfFrom lo (Memory.insert m a v) = true := by
  induction m generalizing lo with
  | nil => simp [Memory.insert, Memory.wfFrom, hlo, hv]
  | cons cell rest ih =>
    simp only [Memory.wfFrom, Bool.and_eq_true, decide_eq_true_eq] at h
    have hc : cell.1 ≠ a := hm cell (by simp)
    by_cases hlt : a < cell.1
    · rw [Memory.insert, if_pos hlt]
      simp only [Memory.wfFrom, Bool.and_eq_true, decide_eq_true_eq]
      exact ⟨⟨hlo, hv⟩, ⟨by omega, h.1.2⟩, h.2⟩
    · rw [Memory.insert, if_neg hlt]
      simp only [Memory.wfFrom, Bool.and_eq_true, decide_eq_true_eq]
      exact ⟨h.1, ih h.2 (by omega) fun c hc => hm c (by simp [hc])⟩

/-- A write keeps the canonical form. -/
theorem Memory.wf_write {m : Memory} (a : Nat) (v : Byte) (h : m.wf = true) : (m.write a v).wf = true := by
  unfold Memory.write Memory.wf
  split
  · exact Memory.wfFrom_erase a h
  · next hv =>
    exact Memory.wfFrom_insert (Memory.wfFrom_erase a h) (Nat.zero_le a) hv fun c hc => (Memory.mem_erase hc).2

@[simp] theorem Memory.wf_nil : Memory.wf [] = true := rfl

@[simp] theorem Memory.read_nil (a : Nat) : Memory.read [] a = Config.ramInit := rfl

/-- In a canonical memory every key is at least the bound it is canonical from. -/
theorem Memory.key_ge {m : Memory} {lo : Nat} (h : Memory.wfFrom lo m = true) : ∀ cell ∈ m, lo ≤ cell.1 := by
  induction m generalizing lo with
  | nil => simp
  | cons c rest ih =>
    simp only [Memory.wfFrom, Bool.and_eq_true, decide_eq_true_eq] at h
    intro cell hc
    rcases List.mem_cons.mp hc with rfl | hc
    · exact h.1.1
    · have := ih h.2 cell hc
      omega

theorem Memory.read_of_key_ge {m : Memory} {lo a : Nat} (h : Memory.wfFrom lo m = true) (ha : a < lo) :
    m.read a = Config.ramInit := by
  induction m generalizing lo with
  | nil => rfl
  | cons c rest ih =>
    simp only [Memory.wfFrom, Bool.and_eq_true, decide_eq_true_eq] at h
    rw [Memory.read, if_neg (by omega)]
    exact ih h.2 (by omega)

/-! ### A byte sequence as a memory -/

theorem Memory.wfFrom_ofBytes (a : Nat) (l : List Byte) : Memory.wfFrom a (Memory.ofBytes a l) = true := by
  induction l generalizing a with
  | nil => rfl
  | cons v rest ih =>
    by_cases hv : v = Config.ramInit
    · rw [Memory.ofBytes, if_pos hv]
      exact Memory.wfFrom_mono (by omega) (ih (a + 1))
    · rw [Memory.ofBytes, if_neg hv]
      simp [Memory.wfFrom, hv, ih (a + 1)]

theorem Memory.wf_ofBytes (l : List Byte) : (Memory.ofBytes 0 l).wf = true := Memory.wfFrom_ofBytes 0 l

theorem Memory.key_ofBytes {a : Nat} {l : List Byte} : ∀ cell ∈ Memory.ofBytes a l, cell.1 < a + l.length := by
  induction l generalizing a with
  | nil => simp [Memory.ofBytes]
  | cons v rest ih =>
    intro cell h
    have key : ∀ c ∈ Memory.ofBytes (a + 1) rest, c.1 < a + (rest.length + 1) := fun c hc => by
      have := ih c hc
      omega
    unfold Memory.ofBytes at h
    split at h
    · simpa using key cell h
    · rcases List.mem_cons.mp h with rfl | h
      · simp
      · simpa using key cell h

/-- The image of a byte sequence reads as the sequence, and as 0x00 outside it. -/
theorem Memory.read_ofBytes (a k : Nat) (l : List Byte) :
    (Memory.ofBytes a l).read k = if a ≤ k then l.getD (k - a) Config.ramInit else Config.ramInit := by
  induction l generalizing a with
  | nil => simp [Memory.ofBytes]
  | cons v rest ih =>
    have tail : (if a + 1 ≤ k then rest.getD (k - (a + 1)) Config.ramInit else Config.ramInit) =
        if k = a then Config.ramInit else if a ≤ k then (v :: rest).getD (k - a) Config.ramInit else Config.ramInit := by
      rcases Nat.lt_trichotomy k a with h | h | h
      · rw [if_neg (by omega), if_neg (by omega), if_neg (by omega)]
      · rw [if_neg (by omega), if_pos h]
      · rw [if_pos (by omega), if_neg (by omega), if_pos (by omega), show k - a = (k - (a + 1)) + 1 by omega]
        simp
    by_cases hv : v = Config.ramInit
    · rw [Memory.ofBytes, if_pos hv, ih, tail]
      by_cases hk : k = a
      · subst hk; simp [hv]
      · rw [if_neg hk]
    · rw [Memory.ofBytes, if_neg hv, Memory.read, ih, tail]
      by_cases hk : k = a
      · subst hk; simp
      · rw [if_neg fun e => hk e.symm, if_neg hk]

end Sys2Proof.Machine
end

