-- ==== Sys2Proof/Laws/State.lean ====
section
/-! SUPPORT. One lemma per field of `State` per named update, so that no later proof unfolds a record update. -/

namespace Sys2Proof.Machine

variable (s : State)

/-! ### `State.setReg8` -/

@[simp] theorem State.setReg8_regs (i : R8) (v : Byte) : (s.setReg8 i v).regs = s.regs.set8 i v := rfl
@[simp] theorem State.setReg8_ime (i : R8) (v : Byte) : (s.setReg8 i v).ime = s.ime := rfl
@[simp] theorem State.setReg8_eiPending (i : R8) (v : Byte) : (s.setReg8 i v).eiPending = s.eiPending := rfl
@[simp] theorem State.setReg8_runState (i : R8) (v : Byte) : (s.setReg8 i v).runState = s.runState := rfl
@[simp] theorem State.setReg8_haltBug (i : R8) (v : Byte) : (s.setReg8 i v).haltBug = s.haltBug := rfl
@[simp] theorem State.setReg8_bpResume (i : R8) (v : Byte) : (s.setReg8 i v).bpResume = s.bpResume := rfl
@[simp] theorem State.setReg8_cycles (i : R8) (v : Byte) : (s.setReg8 i v).cycles = s.cycles := rfl
@[simp] theorem State.setReg8_breakpoints (i : R8) (v : Byte) : (s.setReg8 i v).breakpoints = s.breakpoints := rfl
@[simp] theorem State.setReg8_mem (i : R8) (v : Byte) : (s.setReg8 i v).mem = s.mem := rfl
@[simp] theorem State.setReg8_cartRam (i : R8) (v : Byte) : (s.setReg8 i v).cartRam = s.cartRam := rfl
@[simp] theorem State.setReg8_cart (i : R8) (v : Byte) : (s.setReg8 i v).cart = s.cart := rfl
@[simp] theorem State.setReg8_mbc (i : R8) (v : Byte) : (s.setReg8 i v).mbc = s.mbc := rfl
@[simp] theorem State.setReg8_bootMapped (i : R8) (v : Byte) : (s.setReg8 i v).bootMapped = s.bootMapped := rfl
@[simp] theorem State.setReg8_ifBits (i : R8) (v : Byte) : (s.setReg8 i v).ifBits = s.ifBits := rfl
@[simp] theorem State.setReg8_ie (i : R8) (v : Byte) : (s.setReg8 i v).ie = s.ie := rfl
@[simp] theorem State.setReg8_timer (i : R8) (v : Byte) : (s.setReg8 i v).timer = s.timer := rfl
@[simp] theorem State.setReg8_ppu (i : R8) (v : Byte) : (s.setReg8 i v).ppu = s.ppu := rfl
@[simp] theorem State.setReg8_p1Sel (i : R8) (v : Byte) : (s.setReg8 i v).p1Sel = s.p1Sel := rfl
@[simp] theorem State.setReg8_sb (i : R8) (v : Byte) : (s.setReg8 i v).sb = s.sb := rfl
@[simp] theorem State.setReg8_sc (i : R8) (v : Byte) : (s.setReg8 i v).sc = s.sc := rfl
@[simp] theorem State.setReg8_host (i : R8) (v : Byte) : (s.setReg8 i v).host = s.host := rfl
@[simp] theorem State.setReg8_params (i : R8) (v : Byte) : (s.setReg8 i v).params = s.params := rfl

/-! ### `State.setReg16` -/

@[simp] theorem State.setReg16_regs (i : R16) (v : Word) : (s.setReg16 i v).regs = s.regs.set16 i v := rfl
@[simp] theorem State.setReg16_ime (i : R16) (v : Word) : (s.setReg16 i v).ime = s.ime := rfl
@[simp] theorem State.setReg16_eiPending (i : R16) (v : Word) : (s.setReg16 i v).eiPending = s.eiPending := rfl
@[simp] theorem State.setReg16_runState (i : R16) (v : Word) : (s.setReg16 i v).runState = s.runState := rfl
@[simp] theorem State.setReg16_haltBug (i : R16) (v : Word) : (s.setReg16 i v).haltBug = s.haltBug := rfl
@[simp] theorem State.setReg16_bpResume (i : R16) (v : Word) : (s.setReg16 i v).bpResume = s.bpResume := rfl
@[simp] theorem State.setReg16_cycles (i : R16) (v : Word) : (s.setReg16 i v).cycles = s.cycles := rfl
@[simp] theorem State.setReg16_breakpoints (i : R16) (v : Word) : (s.setReg16 i v).breakpoints = s.breakpoints := rfl
@[simp] theorem State.setReg16_mem (i : R16) (v : Word) : (s.setReg16 i v).mem = s.mem := rfl
@[simp] theorem State.setReg16_cartRam (i : R16) (v : Word) : (s.setReg16 i v).cartRam = s.cartRam := rfl
@[simp] theorem State.setReg16_cart (i : R16) (v : Word) : (s.setReg16 i v).cart = s.cart := rfl
@[simp] theorem State.setReg16_mbc (i : R16) (v : Word) : (s.setReg16 i v).mbc = s.mbc := rfl
@[simp] theorem State.setReg16_bootMapped (i : R16) (v : Word) : (s.setReg16 i v).bootMapped = s.bootMapped := rfl
@[simp] theorem State.setReg16_ifBits (i : R16) (v : Word) : (s.setReg16 i v).ifBits = s.ifBits := rfl
@[simp] theorem State.setReg16_ie (i : R16) (v : Word) : (s.setReg16 i v).ie = s.ie := rfl
@[simp] theorem State.setReg16_timer (i : R16) (v : Word) : (s.setReg16 i v).timer = s.timer := rfl
@[simp] theorem State.setReg16_ppu (i : R16) (v : Word) : (s.setReg16 i v).ppu = s.ppu := rfl
@[simp] theorem State.setReg16_p1Sel (i : R16) (v : Word) : (s.setReg16 i v).p1Sel = s.p1Sel := rfl
@[simp] theorem State.setReg16_sb (i : R16) (v : Word) : (s.setReg16 i v).sb = s.sb := rfl
@[simp] theorem State.setReg16_sc (i : R16) (v : Word) : (s.setReg16 i v).sc = s.sc := rfl
@[simp] theorem State.setReg16_host (i : R16) (v : Word) : (s.setReg16 i v).host = s.host := rfl
@[simp] theorem State.setReg16_params (i : R16) (v : Word) : (s.setReg16 i v).params = s.params := rfl

/-! ### `State.setReg16s` -/

@[simp] theorem State.setReg16s_regs (i : R16s) (v : Word) : (s.setReg16s i v).regs = s.regs.set16s i v := rfl
@[simp] theorem State.setReg16s_ime (i : R16s) (v : Word) : (s.setReg16s i v).ime = s.ime := rfl
@[simp] theorem State.setReg16s_eiPending (i : R16s) (v : Word) : (s.setReg16s i v).eiPending = s.eiPending := rfl
@[simp] theorem State.setReg16s_runState (i : R16s) (v : Word) : (s.setReg16s i v).runState = s.runState := rfl
@[simp] theorem State.setReg16s_haltBug (i : R16s) (v : Word) : (s.setReg16s i v).haltBug = s.haltBug := rfl
@[simp] theorem State.setReg16s_bpResume (i : R16s) (v : Word) : (s.setReg16s i v).bpResume = s.bpResume := rfl
@[simp] theorem State.setReg16s_cycles (i : R16s) (v : Word) : (s.setReg16s i v).cycles = s.cycles := rfl
@[simp] theorem State.setReg16s_breakpoints (i : R16s) (v : Word) : (s.setReg16s i v).breakpoints = s.breakpoints := rfl
@[simp] theorem State.setReg16s_mem (i : R16s) (v : Word) : (s.setReg16s i v).mem = s.mem := rfl
@[simp] theorem State.setReg16s_cartRam (i : R16s) (v : Word) : (s.setReg16s i v).cartRam = s.cartRam := rfl
@[simp] theorem State.setReg16s_cart (i : R16s) (v : Word) : (s.setReg16s i v).cart = s.cart := rfl
@[simp] theorem State.setReg16s_mbc (i : R16s) (v : Word) : (s.setReg16s i v).mbc = s.mbc := rfl
@[simp] theorem State.setReg16s_bootMapped (i : R16s) (v : Word) : (s.setReg16s i v).bootMapped = s.bootMapped := rfl
@[simp] theorem State.setReg16s_ifBits (i : R16s) (v : Word) : (s.setReg16s i v).ifBits = s.ifBits := rfl
@[simp] theorem State.setReg16s_ie (i : R16s) (v : Word) : (s.setReg16s i v).ie = s.ie := rfl
@[simp] theorem State.setReg16s_timer (i : R16s) (v : Word) : (s.setReg16s i v).timer = s.timer := rfl
@[simp] theorem State.setReg16s_ppu (i : R16s) (v : Word) : (s.setReg16s i v).ppu = s.ppu := rfl
@[simp] theorem State.setReg16s_p1Sel (i : R16s) (v : Word) : (s.setReg16s i v).p1Sel = s.p1Sel := rfl
@[simp] theorem State.setReg16s_sb (i : R16s) (v : Word) : (s.setReg16s i v).sb = s.sb := rfl
@[simp] theorem State.setReg16s_sc (i : R16s) (v : Word) : (s.setReg16s i v).sc = s.sc := rfl
@[simp] theorem State.setReg16s_host (i : R16s) (v : Word) : (s.setReg16s i v).host = s.host := rfl
@[simp] theorem State.setReg16s_params (i : R16s) (v : Word) : (s.setReg16s i v).params = s.params := rfl

/-! ### `State.setF` -/

@[simp] theorem State.setF_regs (v : Byte) : (s.setF v).regs = { s.regs with f := v } := rfl
@[simp] theorem State.setF_ime (v : Byte) : (s.setF v).ime = s.ime := rfl
@[simp] theorem State.setF_eiPending (v : Byte) : (s.setF v).eiPending = s.eiPending := rfl
@[simp] theorem State.setF_runState (v : Byte) : (s.setF v).runState = s.runState := rfl
@[simp] theorem State.setF_haltBug (v : Byte) : (s.setF v).haltBug = s.haltBug := rfl
@[simp] theorem State.setF_bpResume (v : Byte) : (s.setF v).bpResume = s.bpResume := rfl
@[simp] theorem State.setF_cycles (v : Byte) : (s.setF v).cycles = s.cycles := rfl
@[simp] theorem State.setF_breakpoints (v : Byte) : (s.setF v).breakpoints = s.breakpoints := rfl
@[simp] theorem State.setF_mem (v : Byte) : (s.setF v).mem = s.mem := rfl
@[simp] theorem State.setF_cartRam (v : Byte) : (s.setF v).cartRam = s.cartRam := rfl
@[simp] theorem State.setF_cart (v : Byte) : (s.setF v).cart = s.cart := rfl
@[simp] theorem State.setF_mbc (v : Byte) : (s.setF v).mbc = s.mbc := rfl
@[simp] theorem State.setF_bootMapped (v : Byte) : (s.setF v).bootMapped = s.bootMapped := rfl
@[simp] theorem State.setF_ifBits (v : Byte) : (s.setF v).ifBits = s.ifBits := rfl
@[simp] theorem State.setF_ie (v : Byte) : (s.setF v).ie = s.ie := rfl
@[simp] theorem State.setF_timer (v : Byte) : (s.setF v).timer = s.timer := rfl
@[simp] theorem State.setF_ppu (v : Byte) : (s.setF v).ppu = s.ppu := rfl
@[simp] theorem State.setF_p1Sel (v : Byte) : (s.setF v).p1Sel = s.p1Sel := rfl
@[simp] theorem State.setF_sb (v : Byte) : (s.setF v).sb = s.sb := rfl
@[simp] theorem State.setF_sc (v : Byte) : (s.setF v).sc = s.sc := rfl
@[simp] theorem State.setF_host (v : Byte) : (s.setF v).host = s.host := rfl
@[simp] theorem State.setF_params (v : Byte) : (s.setF v).params = s.params := rfl

/-! ### `State.setSp` -/

@[simp] theorem State.setSp_regs (v : Word) : (s.setSp v).regs = { s.regs with sp := v } := rfl
@[simp] theorem State.setSp_ime (v : Word) : (s.setSp v).ime = s.ime := rfl
@[simp] theorem State.setSp_eiPending (v : Word) : (s.setSp v).eiPending = s.eiPending := rfl
@[simp] theorem State.setSp_runState (v : Word) : (s.setSp v).runState = s.runState := rfl
@[simp] theorem State.setSp_haltBug (v : Word) : (s.setSp v).haltBug = s.haltBug := rfl
@[simp] theorem State.setSp_bpResume (v : Word) : (s.setSp v).bpResume = s.bpResume := rfl
@[simp] theorem State.setSp_cycles (v : Word) : (s.setSp v).cycles = s.cycles := rfl
@[simp] theorem State.setSp_breakpoints (v : Word) : (s.setSp v).breakpoints = s.breakpoints := rfl
@[simp] theorem State.setSp_mem (v : Word) : (s.setSp v).mem = s.mem := rfl
@[simp] theorem State.setSp_cartRam (v : Word) : (s.setSp v).cartRam = s.cartRam := rfl
@[simp] theorem State.setSp_cart (v : Word) : (s.setSp v).cart = s.cart := rfl
@[simp] theorem State.setSp_mbc (v : Word) : (s.setSp v).mbc = s.mbc := rfl
@[simp] theorem State.setSp_bootMapped (v : Word) : (s.setSp v).bootMapped = s.bootMapped := rfl
@[simp] theorem State.setSp_ifBits (v : Word) : (s.setSp v).ifBits = s.ifBits := rfl
@[simp] theorem State.setSp_ie (v : Word) : (s.setSp v).ie = s.ie := rfl
@[simp] theorem State.setSp_timer (v : Word) : (s.setSp v).timer = s.timer := rfl
@[simp] theorem State.setSp_ppu (v : Word) : (s.setSp v).ppu = s.ppu := rfl
@[simp] theorem State.setSp_p1Sel (v : Word) : (s.setSp v).p1Sel = s.p1Sel := rfl
@[simp] theorem State.setSp_sb (v : Word) : (s.setSp v).sb = s.sb := rfl
@[simp] theorem State.setSp_sc (v : Word) : (s.setSp v).sc = s.sc := rfl
@[simp] theorem State.setSp_host (v : Word) : (s.setSp v).host = s.host := rfl
@[simp] theorem State.setSp_params (v : Word) : (s.setSp v).params = s.params := rfl

/-! ### `State.setPc` -/

@[simp] theorem State.setPc_regs (v : Word) : (s.setPc v).regs = { s.regs with pc := v } := rfl
@[simp] theorem State.setPc_ime (v : Word) : (s.setPc v).ime = s.ime := rfl
@[simp] theorem State.setPc_eiPending (v : Word) : (s.setPc v).eiPending = s.eiPending := rfl
@[simp] theorem State.setPc_runState (v : Word) : (s.setPc v).runState = s.runState := rfl
@[simp] theorem State.setPc_haltBug (v : Word) : (s.setPc v).haltBug = s.haltBug := rfl
@[simp] theorem State.setPc_bpResume (v : Word) : (s.setPc v).bpResume = s.bpResume := rfl
@[simp] theorem State.setPc_cycles (v : Word) : (s.setPc v).cycles = s.cycles := rfl
@[simp] theorem State.setPc_breakpoints (v : Word) : (s.setPc v).breakpoints = s.breakpoints := rfl
@[simp] theorem State.setPc_mem (v : Word) : (s.setPc v).mem = s.mem := rfl
@[simp] theorem State.setPc_cartRam (v : Word) : (s.setPc v).cartRam = s.cartRam := rfl
@[simp] theorem State.setPc_cart (v : Word) : (s.setPc v).cart = s.cart := rfl
@[simp] theorem State.setPc_mbc (v : Word) : (s.setPc v).mbc = s.mbc := rfl
@[simp] theorem State.setPc_bootMapped (v : Word) : (s.setPc v).bootMapped = s.bootMapped := rfl
@[simp] theorem State.setPc_ifBits (v : Word) : (s.setPc v).ifBits = s.ifBits := rfl
@[simp] theorem State.setPc_ie (v : Word) : (s.setPc v).ie = s.ie := rfl
@[simp] theorem State.setPc_timer (v : Word) : (s.setPc v).timer = s.timer := rfl
@[simp] theorem State.setPc_ppu (v : Word) : (s.setPc v).ppu = s.ppu := rfl
@[simp] theorem State.setPc_p1Sel (v : Word) : (s.setPc v).p1Sel = s.p1Sel := rfl
@[simp] theorem State.setPc_sb (v : Word) : (s.setPc v).sb = s.sb := rfl
@[simp] theorem State.setPc_sc (v : Word) : (s.setPc v).sc = s.sc := rfl
@[simp] theorem State.setPc_host (v : Word) : (s.setPc v).host = s.host := rfl
@[simp] theorem State.setPc_params (v : Word) : (s.setPc v).params = s.params := rfl

/-! ### `State.setAlu` -/

@[simp] theorem State.setAlu_regs (r : Alu8) : (s.setAlu r).regs = { s.regs with a := r.res, f := r.f } := rfl
@[simp] theorem State.setAlu_ime (r : Alu8) : (s.setAlu r).ime = s.ime := rfl
@[simp] theorem State.setAlu_eiPending (r : Alu8) : (s.setAlu r).eiPending = s.eiPending := rfl
@[simp] theorem State.setAlu_runState (r : Alu8) : (s.setAlu r).runState = s.runState := rfl
@[simp] theorem State.setAlu_haltBug (r : Alu8) : (s.setAlu r).haltBug = s.haltBug := rfl
@[simp] theorem State.setAlu_bpResume (r : Alu8) : (s.setAlu r).bpResume = s.bpResume := rfl
@[simp] theorem State.setAlu_cycles (r : Alu8) : (s.setAlu r).cycles = s.cycles := rfl
@[simp] theorem State.setAlu_breakpoints (r : Alu8) : (s.setAlu r).breakpoints = s.breakpoints := rfl
@[simp] theorem State.setAlu_mem (r : Alu8) : (s.setAlu r).mem = s.mem := rfl
@[simp] theorem State.setAlu_cartRam (r : Alu8) : (s.setAlu r).cartRam = s.cartRam := rfl
@[simp] theorem State.setAlu_cart (r : Alu8) : (s.setAlu r).cart = s.cart := rfl
@[simp] theorem State.setAlu_mbc (r : Alu8) : (s.setAlu r).mbc = s.mbc := rfl
@[simp] theorem State.setAlu_bootMapped (r : Alu8) : (s.setAlu r).bootMapped = s.bootMapped := rfl
@[simp] theorem State.setAlu_ifBits (r : Alu8) : (s.setAlu r).ifBits = s.ifBits := rfl
@[simp] theorem State.setAlu_ie (r : Alu8) : (s.setAlu r).ie = s.ie := rfl
@[simp] theorem State.setAlu_timer (r : Alu8) : (s.setAlu r).timer = s.timer := rfl
@[simp] theorem State.setAlu_ppu (r : Alu8) : (s.setAlu r).ppu = s.ppu := rfl
@[simp] theorem State.setAlu_p1Sel (r : Alu8) : (s.setAlu r).p1Sel = s.p1Sel := rfl
@[simp] theorem State.setAlu_sb (r : Alu8) : (s.setAlu r).sb = s.sb := rfl
@[simp] theorem State.setAlu_sc (r : Alu8) : (s.setAlu r).sc = s.sc := rfl
@[simp] theorem State.setAlu_host (r : Alu8) : (s.setAlu r).host = s.host := rfl
@[simp] theorem State.setAlu_params (r : Alu8) : (s.setAlu r).params = s.params := rfl

/-! ### `State.charge` -/

@[simp] theorem State.charge_regs (n : Nat) : (s.charge n).regs = s.regs := rfl
@[simp] theorem State.charge_ime (n : Nat) : (s.charge n).ime = s.ime := rfl
@[simp] theorem State.charge_eiPending (n : Nat) : (s.charge n).eiPending = s.eiPending := rfl
@[simp] theorem State.charge_runState (n : Nat) : (s.charge n).runState = s.runState := rfl
@[simp] theorem State.charge_haltBug (n : Nat) : (s.charge n).haltBug = s.haltBug := rfl
@[simp] theorem State.charge_bpResume (n : Nat) : (s.charge n).bpResume = s.bpResume := rfl
@[simp] theorem State.charge_cycles (n : Nat) : (s.charge n).cycles = s.cycles + n := rfl
@[simp] theorem State.charge_breakpoints (n : Nat) : (s.charge n).breakpoints = s.breakpoints := rfl
@[simp] theorem State.charge_mem (n : Nat) : (s.charge n).mem = s.mem := rfl
@[simp] theorem State.charge_cartRam (n : Nat) : (s.charge n).cartRam = s.cartRam := rfl
@[simp] theorem State.charge_cart (n : Nat) : (s.charge n).cart = s.cart := rfl
@[simp] theorem State.charge_mbc (n : Nat) : (s.charge n).mbc = s.mbc := rfl
@[simp] theorem State.charge_bootMapped (n : Nat) : (s.charge n).bootMapped = s.bootMapped := rfl
@[simp] theorem State.charge_ifBits (n : Nat) : (s.charge n).ifBits = s.ifBits := rfl
@[simp] theorem State.charge_ie (n : Nat) : (s.charge n).ie = s.ie := rfl
@[simp] theorem State.charge_timer (n : Nat) : (s.charge n).timer = s.timer := rfl
@[simp] theorem State.charge_ppu (n : Nat) : (s.charge n).ppu = s.ppu := rfl
@[simp] theorem State.charge_p1Sel (n : Nat) : (s.charge n).p1Sel = s.p1Sel := rfl
@[simp] theorem State.charge_sb (n : Nat) : (s.charge n).sb = s.sb := rfl
@[simp] theorem State.charge_sc (n : Nat) : (s.charge n).sc = s.sc := rfl
@[simp] theorem State.charge_host (n : Nat) : (s.charge n).host = s.host := rfl
@[simp] theorem State.charge_params (n : Nat) : (s.charge n).params = s.params := rfl

/-! ### `State.requestInterrupt` -/

@[simp] theorem State.requestInterrupt_regs (i : Nat) : (s.requestInterrupt i).regs = s.regs := rfl
@[simp] theorem State.requestInterrupt_ime (i : Nat) : (s.requestInterrupt i).ime = s.ime := rfl
@[simp] theorem State.requestInterrupt_eiPending (i : Nat) : (s.requestInterrupt i).eiPending = s.eiPending := rfl
@[simp] theorem State.requestInterrupt_runState (i : Nat) : (s.requestInterrupt i).runState = s.runState := rfl
@[simp] theorem State.requestInterrupt_haltBug (i : Nat) : (s.requestInterrupt i).haltBug = s.haltBug := rfl
@[simp] theorem State.requestInterrupt_bpResume (i : Nat) : (s.requestInterrupt i).bpResume = s.bpResume := rfl
@[simp] theorem State.requestInterrupt_cycles (i : Nat) : (s.requestInterrupt i).cycles = s.cycles := rfl
@[simp] theorem State.requestInterrupt_breakpoints (i : Nat) : (s.requestInterrupt i).breakpoints = s.breakpoints := rfl
@[simp] theorem State.requestInterrupt_mem (i : Nat) : (s.requestInterrupt i).mem = s.mem := rfl
@[simp] theorem State.requestInterrupt_cartRam (i : Nat) : (s.requestInterrupt i).cartRam = s.cartRam := rfl
@[simp] theorem State.requestInterrupt_cart (i : Nat) : (s.requestInterrupt i).cart = s.cart := rfl
@[simp] theorem State.requestInterrupt_mbc (i : Nat) : (s.requestInterrupt i).mbc = s.mbc := rfl
@[simp] theorem State.requestInterrupt_bootMapped (i : Nat) : (s.requestInterrupt i).bootMapped = s.bootMapped := rfl
@[simp] theorem State.requestInterrupt_ifBits (i : Nat) : (s.requestInterrupt i).ifBits = s.ifBits ||| (1#5 <<< i) := rfl
@[simp] theorem State.requestInterrupt_ie (i : Nat) : (s.requestInterrupt i).ie = s.ie := rfl
@[simp] theorem State.requestInterrupt_timer (i : Nat) : (s.requestInterrupt i).timer = s.timer := rfl
@[simp] theorem State.requestInterrupt_ppu (i : Nat) : (s.requestInterrupt i).ppu = s.ppu := rfl
@[simp] theorem State.requestInterrupt_p1Sel (i : Nat) : (s.requestInterrupt i).p1Sel = s.p1Sel := rfl
@[simp] theorem State.requestInterrupt_sb (i : Nat) : (s.requestInterrupt i).sb = s.sb := rfl
@[simp] theorem State.requestInterrupt_sc (i : Nat) : (s.requestInterrupt i).sc = s.sc := rfl
@[simp] theorem State.requestInterrupt_host (i : Nat) : (s.requestInterrupt i).host = s.host := rfl
@[simp] theorem State.requestInterrupt_params (i : Nat) : (s.requestInterrupt i).params = s.params := rfl

/-! ### `State.store` -/

@[simp] theorem State.store_regs (a : Nat) (v : Byte) : (s.store a v).regs = s.regs := rfl
@[simp] theorem State.store_ime (a : Nat) (v : Byte) : (s.store a v).ime = s.ime := rfl
@[simp] theorem State.store_eiPending (a : Nat) (v : Byte) : (s.store a v).eiPending = s.eiPending := rfl
@[simp] theorem State.store_runState (a : Nat) (v : Byte) : (s.store a v).runState = s.runState := rfl
@[simp] theorem State.store_haltBug (a : Nat) (v : Byte) : (s.store a v).haltBug = s.haltBug := rfl
@[simp] theorem State.store_bpResume (a : Nat) (v : Byte) : (s.store a v).bpResume = s.bpResume := rfl
@[simp] theorem State.store_cycles (a : Nat) (v : Byte) : (s.store a v).cycles = s.cycles := rfl
@[simp] theorem State.store_breakpoints (a : Nat) (v : Byte) : (s.store a v).breakpoints = s.breakpoints := rfl
@[simp] theorem State.store_mem (a : Nat) (v : Byte) : (s.store a v).mem = s.mem.write a v := rfl
@[simp] theorem State.store_cartRam (a : Nat) (v : Byte) : (s.store a v).cartRam = s.cartRam := rfl
@[simp] theorem State.store_cart (a : Nat) (v : Byte) : (s.store a v).cart = s.cart := rfl
@[simp] theorem State.store_mbc (a : Nat) (v : Byte) : (s.store a v).mbc = s.mbc := rfl
@[simp] theorem State.store_bootMapped (a : Nat) (v : Byte) : (s.store a v).bootMapped = s.bootMapped := rfl
@[simp] theorem State.store_ifBits (a : Nat) (v : Byte) : (s.store a v).ifBits = s.ifBits := rfl
@[simp] theorem State.store_ie (a : Nat) (v : Byte) : (s.store a v).ie = s.ie := rfl
@[simp] theorem State.store_timer (a : Nat) (v : Byte) : (s.store a v).timer = s.timer := rfl
@[simp] theorem State.store_ppu (a : Nat) (v : Byte) : (s.store a v).ppu = s.ppu := rfl
@[simp] theorem State.store_p1Sel (a : Nat) (v : Byte) : (s.store a v).p1Sel = s.p1Sel := rfl
@[simp] theorem State.store_sb (a : Nat) (v : Byte) : (s.store a v).sb = s.sb := rfl
@[simp] theorem State.store_sc (a : Nat) (v : Byte) : (s.store a v).sc = s.sc := rfl
@[simp] theorem State.store_host (a : Nat) (v : Byte) : (s.store a v).host = s.host := rfl
@[simp] theorem State.store_params (a : Nat) (v : Byte) : (s.store a v).params = s.params := rfl

/-! ### `State.beginInstr` -/

@[simp] theorem State.beginInstr_regs : s.beginInstr.regs = s.regs := rfl
@[simp] theorem State.beginInstr_ime : s.beginInstr.ime = (s.ime || s.eiPending) := rfl
@[simp] theorem State.beginInstr_eiPending : s.beginInstr.eiPending = false := rfl
@[simp] theorem State.beginInstr_runState : s.beginInstr.runState = s.runState := rfl
@[simp] theorem State.beginInstr_haltBug : s.beginInstr.haltBug = s.haltBug := rfl
@[simp] theorem State.beginInstr_bpResume : s.beginInstr.bpResume = false := rfl
@[simp] theorem State.beginInstr_cycles : s.beginInstr.cycles = s.cycles := rfl
@[simp] theorem State.beginInstr_breakpoints : s.beginInstr.breakpoints = s.breakpoints := rfl
@[simp] theorem State.beginInstr_mem : s.beginInstr.mem = s.mem := rfl
@[simp] theorem State.beginInstr_cartRam : s.beginInstr.cartRam = s.cartRam := rfl
@[simp] theorem State.beginInstr_cart : s.beginInstr.cart = s.cart := rfl
@[simp] theorem State.beginInstr_mbc : s.beginInstr.mbc = s.mbc := rfl
@[simp] theorem State.beginInstr_bootMapped : s.beginInstr.bootMapped = s.bootMapped := rfl
@[simp] theorem State.beginInstr_ifBits : s.beginInstr.ifBits = s.ifBits := rfl
@[simp] theorem State.beginInstr_ie : s.beginInstr.ie = s.ie := rfl
@[simp] theorem State.beginInstr_timer : s.beginInstr.timer = s.timer := rfl
@[simp] theorem State.beginInstr_ppu : s.beginInstr.ppu = s.ppu := rfl
@[simp] theorem State.beginInstr_p1Sel : s.beginInstr.p1Sel = s.p1Sel := rfl
@[simp] theorem State.beginInstr_sb : s.beginInstr.sb = s.sb := rfl
@[simp] theorem State.beginInstr_sc : s.beginInstr.sc = s.sc := rfl
@[simp] theorem State.beginInstr_host : s.beginInstr.host = s.host := rfl
@[simp] theorem State.beginInstr_params : s.beginInstr.params = s.params := rfl

end Sys2Proof.Machine
end

