-- ==== Sys2Proof/Laws/Bus.lean ====
section
/-! SUPPORT. What a bus access can read and change. `c.over s` is the CPU part of `c` over the bus and the devices of `s`: no bus
access reads or writes the CPU part, and no bus access writes the cartridge or the parameters. -/

namespace Sys2Proof.Machine

/-- The CPU control state, the breakpoints and the host side of `c`, over the memories, the mapper, the devices and the
parameters of `s`. -/
def State.over (c s : State) : State :=
  { s with
    regs := c.regs
    ime := c.ime
    eiPending := c.eiPending
    runState := c.runState
    haltBug := c.haltBug
    bpResume := c.bpResume
    cycles := c.cycles
    breakpoints := c.breakpoints
    host := c.host }

section
variable (c d s : State)

@[simp] theorem State.over_self : s.over s = s := rfl
@[simp] theorem State.over_over : c.over (d.over s) = c.over s := rfl
@[simp] theorem State.over_of_over : (c.over d).over s = c.over s := rfl
@[simp] theorem State.over_regs : (c.over s).regs = c.regs := rfl
@[simp] theorem State.over_ime : (c.over s).ime = c.ime := rfl
@[simp] theorem State.over_eiPending : (c.over s).eiPending = c.eiPending := rfl
@[simp] theorem State.over_runState : (c.over s).runState = c.runState := rfl
@[simp] theorem State.over_haltBug : (c.over s).haltBug = c.haltBug := rfl
@[simp] theorem State.over_bpResume : (c.over s).bpResume = c.bpResume := rfl
@[simp] theorem State.over_cycles : (c.over s).cycles = c.cycles := rfl
@[simp] theorem State.over_breakpoints : (c.over s).breakpoints = c.breakpoints := rfl
@[simp] theorem State.over_host : (c.over s).host = c.host := rfl
@[simp] theorem State.over_mem : (c.over s).mem = s.mem := rfl
@[simp] theorem State.over_cartRam : (c.over s).cartRam = s.cartRam := rfl
@[simp] theorem State.over_cart : (c.over s).cart = s.cart := rfl
@[simp] theorem State.over_mbc : (c.over s).mbc = s.mbc := rfl
@[simp] theorem State.over_bootMapped : (c.over s).bootMapped = s.bootMapped := rfl
@[simp] theorem State.over_ifBits : (c.over s).ifBits = s.ifBits := rfl
@[simp] theorem State.over_ie : (c.over s).ie = s.ie := rfl
@[simp] theorem State.over_timer : (c.over s).timer = s.timer := rfl
@[simp] theorem State.over_ppu : (c.over s).ppu = s.ppu := rfl
@[simp] theorem State.over_p1Sel : (c.over s).p1Sel = s.p1Sel := rfl
@[simp] theorem State.over_sb : (c.over s).sb = s.sb := rfl
@[simp] theorem State.over_sc : (c.over s).sc = s.sc := rfl
@[simp] theorem State.over_params : (c.over s).params = s.params := rfl

theorem State.over_ioRegRead (r : IoReg) (a : Word) : (c.over s).ioRegRead r a = s.ioRegRead r a := by
  cases r <;> rfl

/-- A bus read does not depend on the CPU part. -/
@[simp] theorem State.over_busRead (a : Word) : (c.over s).busRead a = s.busRead a := by
  unfold State.busRead
  cases regionOf a
  case io => exact State.over_ioRegRead c s _ a
  all_goals rfl

@[simp] theorem State.over_locked (a : Word) : (c.over s).locked a = s.locked a := by
  unfold State.locked
  cases regionOf a <;> rfl

@[simp] theorem State.over_cpuRead (a : Word) : (c.over s).cpuRead a = s.cpuRead a := by
  unfold State.cpuRead
  rw [State.over_locked, State.over_busRead]

end

/-! ### Writes commute with the CPU part -/

theorem State.over_timaIncrement (c s : State) : (c.over s).timaIncrement = c.over s.timaIncrement := by
  unfold State.timaIncrement
  rw [State.over_timer]
  split_ifs <;> rfl

theorem State.over_timerUpdate (c s : State) (t : Timer) : (c.over s).timerUpdate t = c.over (s.timerUpdate t) := by
  unfold State.timerUpdate
  rw [State.over_timer]
  split_ifs
  · exact State.over_timaIncrement c { s with timer := t }
  · rfl

theorem State.over_updateStatLine (c s : State) : (c.over s).updateStatLine = c.over s.updateStatLine := by
  unfold State.updateStatLine
  rw [State.over_ppu]
  by_cases h : s.ppu.lcdOn = true
  · rw [if_pos h, if_pos h]
    by_cases k : (s.ppu.statCondition && !s.ppu.statLine) = true <;> simp only [k] <;> rfl
  · rw [if_neg h, if_neg h]; rfl

theorem State.over_writeLcdc (c s : State) (v : Byte) : (c.over s).writeLcdc v = c.over (s.writeLcdc v) := by
  unfold State.writeLcdc
  rw [State.over_ppu]
  by_cases h : (s.ppu.lcdOn && !v.getLsbD 7) = true
  · rw [if_pos h, if_pos h]; rfl
  · rw [if_neg h, if_neg h]
    by_cases k : (!s.ppu.lcdOn && v.getLsbD 7) = true
    · rw [if_pos k, if_pos k]
      exact State.over_updateStatLine c
        { s with ppu := { s.ppu with lcdc := v, ly := 0, dot := 0, mode := .searchOam, winLine := 0 } }
    · rw [if_neg k, if_neg k]; rfl

theorem State.over_dmaByte (c s : State) (v : Byte) (i : Nat) : (c.over s).dmaByte v i = c.over (s.dmaByte v i) := by
  unfold State.dmaByte
  rw [State.over_busRead]; rfl

/-- The DMA copy is a sequence of stores (R436). -/
theorem State.over_dmaFold (c : State) (v : Byte) (l : List Nat) (s : State) :
    l.foldl (fun t i => t.dmaByte v i) (c.over s) = c.over (l.foldl (fun t i => t.dmaByte v i) s) := by
  induction l generalizing s with
  | nil => rfl
  | cons i rest ih => rw [List.foldl_cons, List.foldl_cons, State.over_dmaByte, ih]

theorem State.over_writeDma (c s : State) (v : Byte) : (c.over s).writeDma v = c.over (s.writeDma v) := by
  unfold State.writeDma
  exact State.over_dmaFold c v _ { s with ppu := { s.ppu with dma := v } }

theorem State.over_cartRamWrite (c s : State) (a : Word) (v : Byte) :
    (c.over s).cartRamWrite a v = c.over (s.cartRamWrite a v) := by
  unfold State.cartRamWrite
  rw [show (c.over s).cartRamOffset a = s.cartRamOffset a from rfl]
  cases s.cartRamOffset a <;> rfl

theorem State.over_mapperWrite (c s : State) (a : Word) (v : Byte) :
    (c.over s).mapperWrite a v = c.over (s.mapperWrite a v) := by
  unfold State.mapperWrite
  rw [State.over_cart]
  cases s.cart with
  | none => rfl
  | some m => dsimp only; cases m.mapper <;> rfl

theorem State.over_ioRegWrite (c s : State) (r : IoReg) (a : Word) (v : Byte) :
    (c.over s).ioRegWrite r a v = c.over (s.ioRegWrite r a v) := by
  cases r
  case div => exact State.over_timerUpdate c s _
  case tac => exact State.over_timerUpdate c s _
  case lcdc => exact State.over_writeLcdc c s v
  case dma => exact State.over_writeDma c s v
  case boot => dsimp only [State.ioRegWrite]; split_ifs <;> rfl
  case unnamed => dsimp only [State.ioRegWrite]; rw [State.over_params]; cases s.params.ioUnusedPolicy <;> rfl
  all_goals rfl

/-- A bus write neither reads nor changes the CPU part. -/
theorem State.over_busWrite (c s : State) (a : Word) (v : Byte) : (c.over s).busWrite a v = c.over (s.busWrite a v) := by
  unfold State.busWrite
  cases regionOf a
  case romLow => exact State.over_mapperWrite c s a v
  case romHigh => exact State.over_mapperWrite c s a v
  case cartRam => exact State.over_cartRamWrite c s a v
  case io => exact State.over_ioRegWrite c s _ a v
  all_goals rfl

theorem State.over_cpuWrite (c s : State) (a : Word) (v : Byte) : (c.over s).cpuWrite a v = c.over (s.cpuWrite a v) := by
  unfold State.cpuWrite
  rw [State.over_locked]
  split_ifs
  · rfl
  · exact State.over_busWrite c s a v

/-- A store leaves the CPU part as it is. -/
theorem State.cpuWrite_over (s : State) (a : Word) (v : Byte) : s.over (s.cpuWrite a v) = s.cpuWrite a v :=
  (State.over_cpuWrite s s a v).symm

section
variable (s : State) (a : Word) (v : Byte)

@[simp] theorem State.cpuWrite_regs : (s.cpuWrite a v).regs = s.regs := by rw [← State.cpuWrite_over]; rfl
@[simp] theorem State.cpuWrite_ime : (s.cpuWrite a v).ime = s.ime := by rw [← State.cpuWrite_over]; rfl
@[simp] theorem State.cpuWrite_eiPending : (s.cpuWrite a v).eiPending = s.eiPending := by
  rw [← State.cpuWrite_over]; rfl
@[simp] theorem State.cpuWrite_runState : (s.cpuWrite a v).runState = s.runState := by
  rw [← State.cpuWrite_over]; rfl
@[simp] theorem State.cpuWrite_haltBug : (s.cpuWrite a v).haltBug = s.haltBug := by rw [← State.cpuWrite_over]; rfl
@[simp] theorem State.cpuWrite_bpResume : (s.cpuWrite a v).bpResume = s.bpResume := by
  rw [← State.cpuWrite_over]; rfl
@[simp] theorem State.cpuWrite_cycles : (s.cpuWrite a v).cycles = s.cycles := by rw [← State.cpuWrite_over]; rfl
@[simp] theorem State.cpuWrite_breakpoints : (s.cpuWrite a v).breakpoints = s.breakpoints := by
  rw [← State.cpuWrite_over]; rfl
@[simp] theorem State.cpuWrite_host : (s.cpuWrite a v).host = s.host := by rw [← State.cpuWrite_over]; rfl

end

/-! ### What a write leaves in the bus part -/

/-- The fields no bus write changes: the cartridge and its ROM bytes (R64), the parameters and what the PPU has drawn. -/
structure State.BusFixed (s t : State) : Prop where
  cart : t.cart = s.cart
  params : t.params = s.params
  frames : t.ppu.frames = s.ppu.frames
  front : t.ppu.front = s.ppu.front
  back : t.ppu.back = s.ppu.back

theorem State.BusFixed.refl (s : State) : s.BusFixed s := ⟨rfl, rfl, rfl, rfl, rfl⟩

theorem State.BusFixed.trans {s t u : State} (h : s.BusFixed t) (k : t.BusFixed u) : s.BusFixed u :=
  ⟨k.cart.trans h.cart, k.params.trans h.params, k.frames.trans h.frames, k.front.trans h.front, k.back.trans h.back⟩

theorem State.timaIncrement_busFixed (s : State) : s.BusFixed s.timaIncrement := by
  unfold State.timaIncrement
  split_ifs <;> exact ⟨rfl, rfl, rfl, rfl, rfl⟩

theorem State.timerUpdate_busFixed (s : State) (t : Timer) : s.BusFixed (s.timerUpdate t) := by
  have h : s.BusFixed { s with timer := t } := ⟨rfl, rfl, rfl, rfl, rfl⟩
  unfold State.timerUpdate
  split_ifs
  · exact h.trans (State.timaIncrement_busFixed _)
  · exact h

theorem State.updateStatLine_busFixed (s : State) : s.BusFixed s.updateStatLine := by
  unfold State.updateStatLine
  by_cases h : s.ppu.lcdOn = true
  · rw [if_pos h]
    by_cases k : (s.ppu.statCondition && !s.ppu.statLine) = true <;> simp only [k] <;> exact ⟨rfl, rfl, rfl, rfl, rfl⟩
  · rw [if_neg h]; exact ⟨rfl, rfl, rfl, rfl, rfl⟩

theorem State.writeLcdc_busFixed (s : State) (v : Byte) : s.BusFixed (s.writeLcdc v) := by
  unfold State.writeLcdc
  split_ifs
  · exact ⟨rfl, rfl, rfl, rfl, rfl⟩
  · have h : s.BusFixed
        { s with ppu := { s.ppu with lcdc := v, ly := 0, dot := 0, mode := .searchOam, winLine := 0 } } :=
      ⟨rfl, rfl, rfl, rfl, rfl⟩
    exact h.trans (State.updateStatLine_busFixed _)
  · exact ⟨rfl, rfl, rfl, rfl, rfl⟩

theorem State.dmaFold_busFixed (v : Byte) (l : List Nat) (s : State) :
    s.BusFixed (l.foldl (fun t i => t.dmaByte v i) s) := by
  induction l generalizing s with
  | nil => exact State.BusFixed.refl s
  | cons i rest ih =>
    have h : s.BusFixed (s.dmaByte v i) := ⟨rfl, rfl, rfl, rfl, rfl⟩
    exact h.trans (ih (s.dmaByte v i))

theorem State.writeDma_busFixed (s : State) (v : Byte) : s.BusFixed (s.writeDma v) := by
  have h : s.BusFixed { s with ppu := { s.ppu with dma := v } } := ⟨rfl, rfl, rfl, rfl, rfl⟩
  unfold State.writeDma
  exact h.trans (State.dmaFold_busFixed v _ _)

theorem State.ioRegWrite_busFixed (s : State) (r : IoReg) (a : Word) (v : Byte) : s.BusFixed (s.ioRegWrite r a v) := by
  cases r
  case div => exact State.timerUpdate_busFixed s _
  case tac => exact State.timerUpdate_busFixed s _
  case lcdc => exact State.writeLcdc_busFixed s v
  case dma => exact State.writeDma_busFixed s v
  case boot => dsimp only [State.ioRegWrite]; split_ifs <;> exact ⟨rfl, rfl, rfl, rfl, rfl⟩
  case unnamed => dsimp only [State.ioRegWrite]; cases s.params.ioUnusedPolicy <;> exact ⟨rfl, rfl, rfl, rfl, rfl⟩
  all_goals exact ⟨rfl, rfl, rfl, rfl, rfl⟩

theorem State.mapperWrite_busFixed (s : State) (a : Word) (v : Byte) : s.BusFixed (s.mapperWrite a v) := by
  unfold State.mapperWrite
  split
  · exact State.BusFixed.refl s
  · split <;> exact ⟨rfl, rfl, rfl, rfl, rfl⟩

theorem State.cartRamWrite_busFixed (s : State) (a : Word) (v : Byte) : s.BusFixed (s.cartRamWrite a v) := by
  unfold State.cartRamWrite
  split <;> exact ⟨rfl, rfl, rfl, rfl, rfl⟩

theorem State.busWrite_busFixed (s : State) (a : Word) (v : Byte) : s.BusFixed (s.busWrite a v) := by
  unfold State.busWrite
  cases regionOf a
  case romLow => exact State.mapperWrite_busFixed s a v
  case romHigh => exact State.mapperWrite_busFixed s a v
  case cartRam => exact State.cartRamWrite_busFixed s a v
  case io => exact State.ioRegWrite_busFixed s _ a v
  all_goals exact ⟨rfl, rfl, rfl, rfl, rfl⟩

/-- No store changes the cartridge, the parameters or what the PPU has drawn. -/
theorem State.cpuWrite_busFixed (s : State) (a : Word) (v : Byte) : s.BusFixed (s.cpuWrite a v) := by
  unfold State.cpuWrite
  split_ifs
  · exact State.BusFixed.refl s
  · exact State.busWrite_busFixed s a v

@[simp] theorem State.cpuWrite_cart (s : State) (a : Word) (v : Byte) : (s.cpuWrite a v).cart = s.cart :=
  (State.cpuWrite_busFixed s a v).cart

@[simp] theorem State.cpuWrite_params (s : State) (a : Word) (v : Byte) : (s.cpuWrite a v).params = s.params :=
  (State.cpuWrite_busFixed s a v).params

end Sys2Proof.Machine
end

