-- ==== Sys2Proof/Laws/Decode.lean ====
section
/-! SUPPORT. The decoder's laws by operand length, and the byte and word conversions its operands use. -/

namespace Sys2Proof

theorem toNat_wordOf (hi lo : Byte) : (wordOf hi lo).toNat = hi.toNat * 256 + lo.toNat := by
  have h : (wordOf hi lo).toNat = hi.toNat <<< 8 ||| lo.toNat := BitVec.toNat_append hi lo
  rw [h, ← Nat.shiftLeft_add_eq_or_of_lt lo.isLt, Nat.shiftLeft_eq]

theorem toNat_loByte (v : Word) : (loByte v).toNat = v.toNat % 256 := BitVec.toNat_setWidth ..

theorem toNat_hiByte (v : Word) : (hiByte v).toNat = v.toNat / 256 := by
  have := v.isLt
  rw [hiByte, BitVec.toNat_setWidth, BitVec.toNat_ushiftRight, Nat.shiftRight_eq_div_pow]
  omega

@[simp] theorem loByte_wordOf (hi lo : Byte) : loByte (wordOf hi lo) = lo := by
  apply BitVec.eq_of_toNat_eq
  rw [toNat_loByte, toNat_wordOf]
  omega

@[simp] theorem hiByte_wordOf (hi lo : Byte) : hiByte (wordOf hi lo) = hi := by
  apply BitVec.eq_of_toNat_eq
  rw [toNat_hiByte, toNat_wordOf]
  omega

@[simp] theorem wordOf_hiByte_loByte (v : Word) : wordOf (hiByte v) (loByte v) = v := by
  apply BitVec.eq_of_toNat_eq
  rw [toNat_wordOf, toNat_hiByte, toNat_loByte]
  omega

/-- The high byte as a bit field. -/
theorem hiByte_eq_extract (v : Word) : hiByte v = v.extractLsb' 8 8 := by
  apply BitVec.eq_of_getLsbD_eq; intro i hi; simp [hiByte]

/-- The low byte as a bit field. -/
theorem loByte_eq_extract (v : Word) : loByte v = v.extractLsb' 0 8 := by
  apply BitVec.eq_of_getLsbD_eq; intro i hi; simp [loByte]

/-- An opcode without operand bytes decodes alone (R139). -/
theorem decode_of_skip_zero {op : Byte} (h : skip op = 0) (rest : List Byte) :
    decode (op :: rest) = .ok (decodeOp op 0 0, rest) := by
  simp [decode, h]

/-- An opcode with one operand byte decodes with it (R139). -/
theorem decode_of_skip_one {op : Byte} (h : skip op = 1) (b1 : Byte) (rest : List Byte) :
    decode (op :: b1 :: rest) = .ok (decodeOp op b1 0, rest) := by
  simp [decode, h]

/-- An opcode with two operand bytes decodes with them (R139). -/
theorem decode_of_skip_two {op : Byte} (h : skip op = 2) (b1 b2 : Byte) (rest : List Byte) :
    decode (op :: b1 :: b2 :: rest) = .ok (decodeOp op b1 b2, rest) := by
  simp [decode, h]

/-- The operand-length class is 0, 1 or 2 (R130). -/
theorem skip_le_two (op : Byte) : skip op ≤ 2 := by
  unfold skip
  split
  · omega
  · split <;> omega

/-- Each row of the base table has an entry for each low nibble (R137). -/
theorem length_baseRow (row : Nat) (b1 : Byte) (n16 : Word) : (baseRow row b1 n16).length = 16 := by
  unfold baseRow
  split <;> rfl

/-- Each row of the prefixed table has an entry for each low nibble (R138). -/
theorem length_cbRow (row : Nat) : (cbRow row).length = 16 := by
  unfold cbRow
  split <;> rfl

end Sys2Proof
end

