-- ==== Sys2Proof/Laws/Devices.lean ====
section
/-! SUPPORT. What the devices do in a T-cycle and in `Advance(n)` (R154): which fields they write, the timer's laws and the PPU's
position. -/

namespace Sys2Proof.Machine

/-- Only the interrupt requests, the timer and the PPU differ. -/
def State.DevicesOnly (s t : State) : Prop := t = { s with ifBits := t.ifBits, timer := t.timer, ppu := t.ppu }

theorem State.DevicesOnly.refl (s : State) : s.DevicesOnly s := rfl

theorem State.DevicesOnly.trans {s t u : State} (h : s.DevicesOnly t) (k : t.DevicesOnly u) : s.DevicesOnly u :=
  Eq.trans k (by rw [show t = _ from h])

/-! ### The timer -/

theorem State.timaIncrement_devicesOnly (s : State) : s.DevicesOnly s.timaIncrement := by
  unfold State.timaIncrement
  split_ifs <;> rfl

theorem State.timerUpdate_devicesOnly (s : State) (t : Timer) : s.DevicesOnly (s.timerUpdate t) := by
  have h : s.DevicesOnly { s with timer := t } := rfl
  unfold State.timerUpdate
  split_ifs
  · exact h.trans (State.timaIncrement_devicesOnly _)
  · exact h

@[simp] theorem State.timaIncrement_ppu (s : State) : s.timaIncrement.ppu = s.ppu := by
  unfold State.timaIncrement
  split_ifs <;> rfl

@[simp] theorem State.timaIncrement_div (s : State) : s.timaIncrement.timer.div = s.timer.div := by
  unfold State.timaIncrement
  split_ifs <;> rfl

@[simp] theorem State.timaIncrement_tac (s : State) : s.timaIncrement.timer.tac = s.timer.tac := by
  unfold State.timaIncrement
  split_ifs <;> rfl

@[simp] theorem State.timerUpdate_ppu (s : State) (t : Timer) : (s.timerUpdate t).ppu = s.ppu := by
  unfold State.timerUpdate
  split_ifs
  · exact State.timaIncrement_ppu _
  · rfl

@[simp] theorem State.timerUpdate_div (s : State) (t : Timer) : (s.timerUpdate t).timer.div = t.div := by
  unfold State.timerUpdate
  split_ifs
  · exact State.timaIncrement_div _
  · rfl

@[simp] theorem State.timerUpdate_tac (s : State) (t : Timer) : (s.timerUpdate t).timer.tac = t.tac := by
  unfold State.timerUpdate
  split_ifs
  · exact State.timaIncrement_tac _
  · rfl

/-- A TIMA increment keeps every request and can add only the timer's (R401, R424). -/
theorem State.timaIncrement_ifBits (s : State) :
    s.timaIncrement.ifBits = s.ifBits ∨ s.timaIncrement.ifBits = s.ifBits ||| 0b00100#5 := by
  unfold State.timaIncrement
  split_ifs
  · exact .inr rfl
  · exact .inl rfl

/-- A timer update keeps every request and can add only the timer's (R401, R423). -/
theorem State.timerUpdate_ifBits (s : State) (t : Timer) :
    (s.timerUpdate t).ifBits = s.ifBits ∨ (s.timerUpdate t).ifBits = s.ifBits ||| 0b00100#5 := by
  unfold State.timerUpdate
  by_cases h : (s.timer.signal && !t.signal) = true
  · simp only [h]; exact State.timaIncrement_ifBits _
  · simp only [h]; exact .inl rfl

@[simp] theorem State.timerTick_ppu (s : State) : s.timerTick.ppu = s.ppu := State.timerUpdate_ppu s _

@[simp] theorem State.timerTick_div (s : State) : s.timerTick.timer.div = s.timer.div + 1 := State.timerUpdate_div s _

@[simp] theorem State.timerTick_tac (s : State) : s.timerTick.timer.tac = s.timer.tac := State.timerUpdate_tac s _

/-! ### The PPU -/

theorem State.updateStatLine_devicesOnly (s : State) : s.DevicesOnly s.updateStatLine := by
  unfold State.updateStatLine
  by_cases h : s.ppu.lcdOn = true
  · rw [if_pos h]
    by_cases k : (s.ppu.statCondition && !s.ppu.statLine) = true <;> simp only [k] <;> rfl
  · rw [if_neg h]; rfl

/-- `UpdateStatLine()` writes only the STAT line of the PPU (R453). -/
theorem State.updateStatLine_ppu (s : State) :
    s.updateStatLine.ppu = { s.ppu with statLine := s.ppu.lcdOn && s.ppu.statCondition } := by
  unfold State.updateStatLine
  by_cases h : s.ppu.lcdOn = true
  · rw [if_pos h]
    by_cases k : (s.ppu.statCondition && !s.ppu.statLine) = true <;> simp only [k, h, Bool.true_and] <;> rfl
  · rw [if_neg h]; simp only [h, Bool.false_and]

/-- `UpdateStatLine()` requests interrupt 1 on a rising edge and nothing else (R453). -/
theorem State.updateStatLine_ifBits (s : State) :
    s.updateStatLine.ifBits =
      if s.ppu.lcdOn = true ∧ s.ppu.statCondition = true ∧ s.ppu.statLine = false then s.ifBits ||| 0b00010#5
      else s.ifBits := by
  by_cases h : s.ppu.lcdOn = true
  · cases hc : s.ppu.statCondition <;> cases hl : s.ppu.statLine <;>
      simp [State.updateStatLine, h, hc, hl, State.requestInterrupt]
  · simp [State.updateStatLine, h]

@[simp] theorem State.updateStatLine_timer (s : State) : s.updateStatLine.timer = s.timer := by
  unfold State.updateStatLine
  by_cases h : s.ppu.lcdOn = true
  · rw [if_pos h]
    by_cases k : (s.ppu.statCondition && !s.ppu.statLine) = true <;> simp only [k] <;> rfl
  · rw [if_neg h]

/-- Rendering a line writes the back buffer and the window row counter only (R456, R458). -/
theorem State.renderAt_eq (s : State) (prev : PpuMode) :
    s.renderAt prev =
      { s with ppu := { s.ppu with back := (s.renderAt prev).ppu.back, winLine := (s.renderAt prev).ppu.winLine } } := by
  unfold State.renderAt
  split_ifs <;> rfl

/-- Publishing writes the front buffer, the frame count and the VBlank request only (R454). -/
theorem State.publishAt_eq (s : State) :
    s.publishAt =
      if s.ppu.ly = 144 ∧ s.ppu.dot = 0 then
        { s with ppu := { s.ppu with front := s.ppu.back, frames := s.ppu.frames + 1 }, ifBits := s.ifBits ||| 0b00001#5 }
      else s := by
  unfold State.publishAt
  split_ifs <;> rfl

theorem State.renderAt_devicesOnly (s : State) (prev : PpuMode) : s.DevicesOnly (s.renderAt prev) := by
  rw [State.renderAt_eq]; rfl

theorem State.publishAt_devicesOnly (s : State) : s.DevicesOnly s.publishAt := by
  rw [State.publishAt_eq]
  split_ifs <;> rfl

/-- With the LCD off a dot does nothing (R449, R455). -/
theorem State.ppuTick_of_off {s : State} (h : s.ppu.lcdOn = false) : s.ppuTick = s := by
  unfold State.ppuTick
  rw [if_neg (by simp [h])]

/-- With the LCD on a dot moves, renders, publishes and evaluates the STAT line, in this order (R449). -/
theorem State.ppuTick_of_on {s : State} (h : s.ppu.lcdOn = true) :
    s.ppuTick =
      ((({ s with ppu := s.ppu.nextDot } : State).renderAt s.ppu.mode).publishAt).updateStatLine := by
  unfold State.ppuTick
  rw [if_pos h]

theorem State.ppuTick_devicesOnly (s : State) : s.DevicesOnly s.ppuTick := by
  by_cases h : s.ppu.lcdOn = true
  · rw [State.ppuTick_of_on h]
    have h0 : s.DevicesOnly { s with ppu := s.ppu.nextDot } := rfl
    exact ((h0.trans (State.renderAt_devicesOnly _ _)).trans (State.publishAt_devicesOnly _)).trans
      (State.updateStatLine_devicesOnly _)
  · rw [State.ppuTick_of_off (by simpa using h)]; rfl

@[simp] theorem State.ppuTick_timer (s : State) : s.ppuTick.timer = s.timer := by
  by_cases h : s.ppu.lcdOn = true
  · rw [State.ppuTick_of_on h, State.updateStatLine_timer, State.publishAt_eq]
    split_ifs <;> rw [State.renderAt_eq]
  · rw [State.ppuTick_of_off (by simpa using h)]

theorem Ppu.nextDot_eq (p : Ppu) :
    p.nextDot = { p with
      ly := p.nextDot.ly, dot := p.nextDot.dot, mode := modeAt p.nextDot.ly p.nextDot.dot, winLine := p.nextDot.winLine } := by
  unfold Ppu.nextDot
  split_ifs <;> rfl

/-- What a dot with the LCD on leaves in the PPU: the next position with its mode, and the three things it may write. -/
theorem State.ppuTick_ppu {s : State} (h : s.ppu.lcdOn = true) :
    s.ppuTick.ppu =
      { s.ppu.nextDot with
        back := (({ s with ppu := s.ppu.nextDot } : State).renderAt s.ppu.mode).ppu.back
        winLine := (({ s with ppu := s.ppu.nextDot } : State).renderAt s.ppu.mode).ppu.winLine
        front :=
          if s.ppu.nextDot.ly = 144 ∧ s.ppu.nextDot.dot = 0 then
            (({ s with ppu := s.ppu.nextDot } : State).renderAt s.ppu.mode).ppu.back
          else s.ppu.front
        frames := if s.ppu.nextDot.ly = 144 ∧ s.ppu.nextDot.dot = 0 then s.ppu.frames + 1 else s.ppu.frames
        statLine := s.ppu.nextDot.statCondition } := by
  have hn := Ppu.nextDot_eq s.ppu
  have hl : s.ppu.nextDot.lcdOn = true := by rw [hn]; exact h
  have hf : s.ppu.nextDot.front = s.ppu.front := by rw [hn]
  have hg : s.ppu.nextDot.frames = s.ppu.frames := by rw [hn]
  generalize hr : ({ s with ppu := s.ppu.nextDot } : State).renderAt s.ppu.mode = r
  have he := State.renderAt_eq { s with ppu := s.ppu.nextDot } s.ppu.mode
  rw [hr] at he
  have hp : r.ppu = { s.ppu.nextDot with back := r.ppu.back, winLine := r.ppu.winLine } := congrArg State.ppu he
  have hly : r.ppu.ly = s.ppu.nextDot.ly := by rw [hp]
  have hdot : r.ppu.dot = s.ppu.nextDot.dot := by rw [hp]
  have hon : r.ppu.lcdOn = true := by rw [hp]; exact hl
  have hst : r.ppu.statCondition = s.ppu.nextDot.statCondition := by rw [hp]; rfl
  have hrf : r.ppu.front = s.ppu.front := by rw [hp]; exact hf
  have hrg : r.ppu.frames = s.ppu.frames := by rw [hp]; exact hg
  rw [State.ppuTick_of_on h, hr, State.updateStatLine_ppu, State.publishAt_eq, hly, hdot]
  have key : ∀ (f : Frame) (n : Nat),
      ({ r.ppu with front := f, frames := n, statLine := s.ppu.nextDot.statCondition } : Ppu) =
        { s.ppu.nextDot with
          back := r.ppu.back, winLine := r.ppu.winLine, front := f, frames := n
          statLine := s.ppu.nextDot.statCondition } := by
    intro f n
    generalize r.ppu.back = x, r.ppu.winLine = y at hp
    rw [hp]
  split_ifs
  · refine Eq.trans ?_ (key _ _)
    rw [show ({ r.ppu with front := r.ppu.back, frames := r.ppu.frames + 1 } : Ppu).lcdOn = true from hon,
      show ({ r.ppu with front := r.ppu.back, frames := r.ppu.frames + 1 } : Ppu).statCondition = _ from hst,
      Bool.true_and, hrg]
  · refine Eq.trans ?_ (key _ _)
    rw [hon, hst, Bool.true_and, ← hrf, ← hrg]

/-! ### Advance -/

@[simp] theorem State.advance_zero (s : State) : s.advance 0 = s := rfl

theorem State.advance_succ (s : State) (n : Nat) : s.advance (n + 1) = (s.timerTick.ppuTick).advance n := rfl

theorem State.advance_add (s : State) (m n : Nat) : s.advance (m + n) = (s.advance m).advance n := by
  induction m generalizing s with
  | zero => rw [Nat.zero_add]; rfl
  | succ m ih => rw [Nat.succ_add, State.advance_succ, ih, ← State.advance_succ]

/-- A property of every T-cycle is a property of `Advance(n)`. -/
theorem State.advance_induct {P : State → State → Prop} (refl : ∀ s, P s s)
    (trans : ∀ {s t u}, P s t → P t u → P s u) (tick : ∀ s, P s s.timerTick.ppuTick) (s : State) (n : Nat) :
    P s (s.advance n) := by
  induction n generalizing s with
  | zero => exact refl s
  | succ n ih => exact trans (tick s) (ih _)

theorem State.tick_devicesOnly (s : State) : s.DevicesOnly s.timerTick.ppuTick :=
  State.DevicesOnly.trans (State.timerUpdate_devicesOnly s _) (State.ppuTick_devicesOnly _)

/-- `Advance(n)` changes the requests, the timer and the PPU only (R154). -/
theorem State.advance_devicesOnly (s : State) (n : Nat) : s.DevicesOnly (s.advance n) :=
  State.advance_induct State.DevicesOnly.refl (fun h k => State.DevicesOnly.trans h k) State.tick_devicesOnly s n

section
variable (s : State) (n : Nat)

@[simp] theorem State.advance_regs : (s.advance n).regs = s.regs := by rw [State.advance_devicesOnly s n]
@[simp] theorem State.advance_ime : (s.advance n).ime = s.ime := by rw [State.advance_devicesOnly s n]
@[simp] theorem State.advance_eiPending : (s.advance n).eiPending = s.eiPending := by
  rw [State.advance_devicesOnly s n]
@[simp] theorem State.advance_runState : (s.advance n).runState = s.runState := by rw [State.advance_devicesOnly s n]
@[simp] theorem State.advance_haltBug : (s.advance n).haltBug = s.haltBug := by rw [State.advance_devicesOnly s n]
@[simp] theorem State.advance_bpResume : (s.advance n).bpResume = s.bpResume := by rw [State.advance_devicesOnly s n]
@[simp] theorem State.advance_cycles : (s.advance n).cycles = s.cycles := by rw [State.advance_devicesOnly s n]
@[simp] theorem State.advance_breakpoints : (s.advance n).breakpoints = s.breakpoints := by
  rw [State.advance_devicesOnly s n]
@[simp] theorem State.advance_mem : (s.advance n).mem = s.mem := by rw [State.advance_devicesOnly s n]
@[simp] theorem State.advance_cartRam : (s.advance n).cartRam = s.cartRam := by rw [State.advance_devicesOnly s n]
@[simp] theorem State.advance_cart : (s.advance n).cart = s.cart := by rw [State.advance_devicesOnly s n]
@[simp] theorem State.advance_mbc : (s.advance n).mbc = s.mbc := by rw [State.advance_devicesOnly s n]
@[simp] theorem State.advance_bootMapped : (s.advance n).bootMapped = s.bootMapped := by
  rw [State.advance_devicesOnly s n]
@[simp] theorem State.advance_ie : (s.advance n).ie = s.ie := by rw [State.advance_devicesOnly s n]
@[simp] theorem State.advance_p1Sel : (s.advance n).p1Sel = s.p1Sel := by rw [State.advance_devicesOnly s n]
@[simp] theorem State.advance_sb : (s.advance n).sb = s.sb := by rw [State.advance_devicesOnly s n]
@[simp] theorem State.advance_sc : (s.advance n).sc = s.sc := by rw [State.advance_devicesOnly s n]
@[simp] theorem State.advance_host : (s.advance n).host = s.host := by rw [State.advance_devicesOnly s n]
@[simp] theorem State.advance_params : (s.advance n).params = s.params := by rw [State.advance_devicesOnly s n]

end

/-! ### The devices do not depend on the CPU part -/

theorem State.over_timerTick (c s : State) : (c.over s).timerTick = c.over s.timerTick := State.over_timerUpdate c s _

theorem State.over_renderAt (c s : State) (prev : PpuMode) : (c.over s).renderAt prev = c.over (s.renderAt prev) := by
  unfold State.renderAt
  rw [State.over_ppu]
  split_ifs <;> rfl

theorem State.over_publishAt (c s : State) : (c.over s).publishAt = c.over s.publishAt := by
  unfold State.publishAt
  rw [State.over_ppu]
  split_ifs <;> rfl

theorem State.over_ppuTick (c s : State) : (c.over s).ppuTick = c.over s.ppuTick := by
  unfold State.ppuTick
  rw [State.over_ppu]
  split_ifs
  · rw [show ({ c.over s with ppu := s.ppu.nextDot } : State) = c.over { s with ppu := s.ppu.nextDot } from rfl,
      State.over_renderAt, State.over_publishAt, State.over_updateStatLine]
  · rfl

theorem State.over_advance (c s : State) (n : Nat) : (c.over s).advance n = c.over (s.advance n) := by
  induction n generalizing s with
  | zero => rfl
  | succ n ih => rw [State.advance_succ, State.advance_succ, State.over_timerTick, State.over_ppuTick, ih]

end Sys2Proof.Machine
end

