-- ==== Sys2Proof/Laws/Exec.lean ====
section
/-! SUPPORT. Everything an instruction can do, said once: `exec_completes` gives the next state of every instruction as its CPU
part over the bus part that at most two stores leave; and what the shared operations, the fetch and the Update give. -/

namespace Sys2Proof.Machine

/-! ### The shared operations -/

/-- The F byte of four flags has no bit below bit 4 (R22). -/
@[simp] theorem flagByte_low (z n h c : Bool) : flagByte z n h c &&& 0x0F = 0 := by
  cases z <;> cases n <;> cases h <;> cases c <;> decide

/-- Writing an 8-bit register leaves F, SP and PC (R20). -/
@[simp] theorem Regs.set8_f (r : Regs) (i : R8) (v : Byte) : (r.set8 i v).f = r.f := by cases i <;> rfl

@[simp] theorem Regs.set8_sp (r : Regs) (i : R8) (v : Byte) : (r.set8 i v).sp = r.sp := by cases i <;> rfl

@[simp] theorem Regs.set8_pc (r : Regs) (i : R8) (v : Byte) : (r.set8 i v).pc = r.pc := by cases i <;> rfl

@[simp] theorem Regs.set16_f (r : Regs) (p : R16) (v : Word) : (r.set16 p v).f = r.f := by cases p <;> rfl

/-- Only AF reaches F, and it loses the low nibble (R22, R134). -/
theorem Regs.set16s_low {r : Regs} (h : r.f &&& 0x0F = 0) (p : R16s) (v : Word) : (r.set16s p v).f &&& 0x0F = 0 := by
  cases p
  case af =>
    show loByte v &&& 0xF0 &&& 0x0F = 0
    rw [BitVec.and_assoc]
    exact BitVec.and_zero
  all_goals exact h

/-- The F byte every ALU operation leaves has no bit below bit 4 (R250 to R273). -/
theorem Alu8.of_low (op : Alu) (a v : Byte) (c : Bool) : (Alu8.of op a v c).f &&& 0x0F = 0 := by
  cases op <;> exact flagByte_low ..

theorem daa8_low (a : Byte) (n h c : Bool) : (daa8 a n h c).f &&& 0x0F = 0 := by
  unfold daa8
  split_ifs <;> exact flagByte_low ..

/-- A push is two stores, high byte first, below the old SP (R77). -/
theorem State.push16_eq (s : State) (v : Word) :
    s.push16 v =
      (s.setSp (s.regs.sp - 2)).over
        ((s.cpuWrite (s.regs.sp - 1) (hiByte v)).cpuWrite (s.regs.sp - 2) (loByte v)) := by
  unfold State.push16
  have h1 : s.setSp (s.regs.sp - 1) = (s.setSp (s.regs.sp - 1)).over s := rfl
  have hsp : s.regs.sp - 1 - 1 = s.regs.sp - 2 := by bv_omega
  simp only [State.setSp_regs]
  rw [h1, State.over_cpuWrite]
  simp only [State.over_regs, State.setSp_regs, hsp]
  rw [show ((s.setSp (s.regs.sp - 1)).over (s.cpuWrite (s.regs.sp - 1) (hiByte v))).setSp (s.regs.sp - 2) =
    (s.setSp (s.regs.sp - 2)).over (s.cpuWrite (s.regs.sp - 1) (hiByte v)) from rfl, State.over_cpuWrite]

/-- A dispatch clears its request, IME and the latch, pushes the PC and enters the vector (R406). -/
theorem State.dispatch_eq (s : State) (i : Nat) :
    s.dispatch i =
      { s with ime := false, eiPending := false, regs := { s.regs with sp := s.regs.sp - 2, pc := vector i } }.over
        ((({ s with ifBits := s.ifBits &&& ~~~(1#5 <<< i), ime := false, eiPending := false } : State).cpuWrite
            (s.regs.sp - 1) (hiByte s.regs.pc)).cpuWrite (s.regs.sp - 2) (loByte s.regs.pc)) := by
  exact congrArg (State.setPc · (vector i)) (State.push16_eq _ _)

/-- The high-page address is 0xFF00 plus the byte (R136). -/
theorem highPage_eq (n : Byte) : highPage n = 0xFF00 + n.setWidth 16 := by
  apply BitVec.eq_of_toNat_eq
  have := n.isLt
  unfold highPage
  rw [toNat_wordOf, BitVec.toNat_add, BitVec.toNat_setWidth]
  show 255 * 256 + n.toNat = (65280 + n.toNat % 65536) % 65536
  omega

/-- A store followed by a register write and the cost: one update of the state the store leaves. -/
theorem State.store_charge (s : State) (a : Word) (v : Byte) (r : Regs) (n : Nat) :
    ({ s.cpuWrite a v with regs := r } : State).charge n =
      { s.cpuWrite a v with regs := r, cycles := s.cycles + n } := by
  rw [← State.cpuWrite_cycles s a v]; rfl

/-- A store that writes no register. -/
theorem storeAt_eq (a : Word) (v : Byte) (n : Nat) (s : State) :
    storeAt a v n s = .next { s.cpuWrite a v with regs := s.regs, cycles := s.cycles + n } := by
  rw [← State.store_charge, ← State.cpuWrite_regs s a v]; rfl

/-- A store at HL and the flags. -/
theorem State.store_setF (s : State) (a : Word) (v f : Byte) (n : Nat) :
    ((s.cpuWrite a v).setF f).charge n =
      { s.cpuWrite a v with regs := { s.regs with f := f }, cycles := s.cycles + n } := by
  rw [← State.store_charge, ← State.cpuWrite_regs s a v]; rfl

/-- A push, a register write and the cost, as one update of the state the two stores leave (R77). -/
theorem State.push16_charge (s : State) (v : Word) (n : Nat) :
    (s.push16 v).charge n =
      { (s.cpuWrite (s.regs.sp - 1) (hiByte v)).cpuWrite (s.regs.sp - 2) (loByte v) with
        regs := { s.regs with sp := s.regs.sp - 2 }, cycles := s.cycles + n } := by
  rw [State.push16_eq]
  simp [State.over, State.charge, State.setSp]

/-! ### What an instruction does -/

/-- What an instruction does to the CPU part: its cost is one of the six of R155; F keeps its low nibble clear; the run state
changes only to Halted, or to Locked under the lock policy; the HALT bug latch is set only where HALT_BUG is true. -/
structure State.CpuStep (s t : State) : Prop where
  breakpoints : t.breakpoints = s.breakpoints
  host : t.host = s.host
  bpResume : t.bpResume = s.bpResume
  cost : ∃ n ∈ [4, 8, 12, 16, 20, 24], t.cycles = s.cycles + n
  flags : s.regs.f &&& 0x0F = 0 → t.regs.f &&& 0x0F = 0
  run : t.runState = s.runState ∨ t.runState = .halted ∨ t.runState = .locked ∧ s.params.illegalPolicy = .lock
  bug : t.haltBug = s.haltBug ∨ t.haltBug = true ∧ s.params.haltBug = true

/-- What an instruction does to the memories, the mapper and the devices: nothing, one store, or two. -/
def State.Stored (s t : State) : Prop :=
  t = t.over s ∨ (∃ a v, t = t.over (s.cpuWrite a v)) ∨
    ∃ a v b w, t = t.over ((s.cpuWrite a v).cpuWrite b w)

/-- A meaning that completes, with everything it can do. -/
def State.Completes (s : State) (r : Result) : Prop := ∃ t, r = .next t ∧ s.CpuStep t ∧ s.Stored t

/-- A meaning that writes the register file only. -/
theorem State.completes_regs (s : State) (r : Regs) {n : Nat} (hn : n ∈ [4, 8, 12, 16, 20, 24])
    (hf : s.regs.f &&& 0x0F = 0 → r.f &&& 0x0F = 0) :
    s.Completes (.next (({ s with regs := r } : State).charge n)) :=
  ⟨_, rfl, ⟨rfl, rfl, rfl, ⟨n, hn, rfl⟩, hf, .inl rfl, .inl rfl⟩, .inl rfl⟩

/-- A meaning that stores one byte and writes the register file. -/
theorem State.completes_store (s : State) (a : Word) (v : Byte) (r : Regs) {n : Nat} (hn : n ∈ [4, 8, 12, 16, 20, 24])
    (hf : s.regs.f &&& 0x0F = 0 → r.f &&& 0x0F = 0) :
    s.Completes (.next (({ s.cpuWrite a v with regs := r } : State).charge n)) := by
  refine ⟨_, rfl, ⟨?_, ?_, ?_, ⟨n, hn, ?_⟩, hf, .inl ?_, .inl ?_⟩, .inr (.inl ⟨a, v, rfl⟩)⟩
  · exact State.cpuWrite_breakpoints s a v
  · exact State.cpuWrite_host s a v
  · exact State.cpuWrite_bpResume s a v
  · exact congrArg (· + n) (State.cpuWrite_cycles s a v)
  · exact State.cpuWrite_runState s a v
  · exact State.cpuWrite_haltBug s a v

/-- A meaning that stores two bytes and leaves the register file `r`. -/
theorem State.completes_two (s : State) (a b : Word) (v w : Byte) (r : Regs) {n : Nat}
    (hn : n ∈ [4, 8, 12, 16, 20, 24]) (hf : s.regs.f &&& 0x0F = 0 → r.f &&& 0x0F = 0) :
    s.Completes (.next (({ s with regs := r }.over ((s.cpuWrite a v).cpuWrite b w)).charge n)) :=
  ⟨_, rfl, ⟨rfl, rfl, rfl, ⟨n, hn, rfl⟩, hf, .inl rfl, .inl rfl⟩, .inr (.inr ⟨a, v, b, w, rfl⟩)⟩

section
variable (s : State)

theorem loadRegReg_completes (dst r : R8) : s.Completes (loadRegReg dst r s) :=
  s.completes_regs _ (by decide) (by rw [Regs.set8_f]; exact id)

theorem loadRegImm_completes (dst : R8) (n : Byte) : s.Completes (loadRegImm dst n s) :=
  s.completes_regs _ (by decide) (by rw [Regs.set8_f]; exact id)

theorem loadFrom_completes (dst : R8) (a : Word) {n : Nat} (hn : n ∈ [4, 8, 12, 16, 20, 24]) :
    s.Completes (loadFrom dst a n s) :=
  s.completes_regs _ hn (by rw [Regs.set8_f]; exact id)

theorem storeAt_completes (a : Word) (v : Byte) {n : Nat} (hn : n ∈ [4, 8, 12, 16, 20, 24]) :
    s.Completes (storeAt a v n s) := by
  have h := s.completes_store a v s.regs hn id
  rw [show ({ s.cpuWrite a v with regs := s.regs } : State) = s.cpuWrite a v from by
    rw [← State.cpuWrite_regs s a v]] at h
  exact h

theorem loadAndStep_completes (v : Word) : s.Completes (loadAndStep v s) := s.completes_regs _ (by decide) id

theorem storeAndStep_completes (v : Word) : s.Completes (storeAndStep v s) := by
  have h := s.completes_store s.regs.hl s.regs.a (s.regs.set16 .hl v) (n := 8) (by decide) id
  unfold storeAndStep State.setReg16
  rw [State.cpuWrite_regs]
  exact h

theorem loadPairImm_completes (p : R16) (n : Word) : s.Completes (loadPairImm p n s) :=
  s.completes_regs _ (by decide) (by rw [Regs.set16_f]; exact id)

theorem loadSpHl_completes : s.Completes (loadSpHl s) := s.completes_regs _ (by decide) id

theorem loadHlSp_completes (e : Byte) : s.Completes (loadHlSp e s) :=
  s.completes_regs _ (by decide) fun _ => flagByte_low ..

theorem storeSp_completes (a : Word) : s.Completes (storeSp a s) := by
  have h := s.completes_two a (a + 1) (loByte s.regs.sp) (hiByte s.regs.sp) s.regs (n := 20) (by decide) id
  rw [show ({ s with regs := s.regs } : State) = s from rfl,
    show s.over ((s.cpuWrite a (loByte s.regs.sp)).cpuWrite (a + 1) (hiByte s.regs.sp)) =
      (s.cpuWrite a (loByte s.regs.sp)).cpuWrite (a + 1) (hiByte s.regs.sp) from by
        rw [← State.cpuWrite_over s, State.over_cpuWrite]; rfl] at h
  exact h

theorem pushPair_completes (p : R16s) : s.Completes (pushPair p s) := by
  unfold pushPair
  rw [State.push16_eq]
  exact s.completes_two _ _ _ _ { s.regs with sp := s.regs.sp - 2 } (by decide) id

theorem popPair_completes (p : R16s) : s.Completes (popPair p s) :=
  s.completes_regs _ (by decide) fun h => Regs.set16s_low (r := s.pop16.regs) h p _

theorem aluReg_completes (op : Alu) (r : R8) : s.Completes (aluReg op r s) :=
  s.completes_regs _ (by decide) fun _ => Alu8.of_low ..

theorem aluMem_completes (op : Alu) : s.Completes (aluMem op s) :=
  s.completes_regs _ (by decide) fun _ => Alu8.of_low ..

theorem aluImm_completes (op : Alu) (n : Byte) : s.Completes (aluImm op n s) :=
  s.completes_regs _ (by decide) fun _ => Alu8.of_low ..

theorem incReg_completes (r : R8) : s.Completes (incReg r s) :=
  s.completes_regs _ (by decide) fun _ => flagByte_low ..

theorem decReg_completes (r : R8) : s.Completes (decReg r s) :=
  s.completes_regs _ (by decide) fun _ => flagByte_low ..

/-- A store at HL and a flag write, the shape of INC (HL), DEC (HL) and the prefixed rotates. -/
theorem State.completes_storeF (v f : Byte) {n : Nat} (hn : n ∈ [4, 8, 12, 16, 20, 24]) (hf : f &&& 0x0F = 0) :
    s.Completes (.next (((s.cpuWrite s.regs.hl v).setF f).charge n)) := by
  have h := s.completes_store s.regs.hl v { s.regs with f := f } hn fun _ => hf
  unfold State.setF
  rw [State.cpuWrite_regs]
  exact h

theorem incMem_completes : s.Completes (incMem s) := s.completes_storeF _ _ (by decide) (flagByte_low ..)

theorem decMem_completes : s.Completes (decMem s) := s.completes_storeF _ _ (by decide) (flagByte_low ..)

theorem decimalAdjust_completes : s.Completes (decimalAdjust s) :=
  s.completes_regs _ (by decide) fun _ => daa8_low ..

theorem complementA_completes : s.Completes (complementA s) :=
  s.completes_regs _ (by decide) fun _ => flagByte_low ..

theorem setCarry_completes : s.Completes (setCarry s) := s.completes_regs _ (by decide) fun _ => flagByte_low ..

theorem complementCarry_completes : s.Completes (complementCarry s) :=
  s.completes_regs _ (by decide) fun _ => flagByte_low ..

theorem addHlPair_completes (p : R16) : s.Completes (addHlPair p s) :=
  s.completes_regs _ (by decide) fun _ => flagByte_low ..

theorem incPair_completes (p : R16) : s.Completes (incPair p s) :=
  s.completes_regs _ (by decide) (by rw [Regs.set16_f]; exact id)

theorem decPair_completes (p : R16) : s.Completes (decPair p s) :=
  s.completes_regs _ (by decide) (by rw [Regs.set16_f]; exact id)

theorem addSp_completes (e : Byte) : s.Completes (addSp e s) :=
  s.completes_regs _ (by decide) fun _ => flagByte_low ..

theorem rotateA_completes (op : Rot) : s.Completes (rotateA op s) :=
  s.completes_regs _ (by decide) fun _ => flagByte_low ..

theorem rotReg_completes (op : Rot) (r : R8) : s.Completes (rotReg op r s) :=
  s.completes_regs _ (by decide) fun _ => flagByte_low ..

theorem rotMem_completes (op : Rot) : s.Completes (rotMem op s) :=
  s.completes_storeF _ _ (by decide) (flagByte_low ..)

theorem bitReg_completes (n : BitNo) (r : R8) : s.Completes (bitReg n r s) :=
  s.completes_regs _ (by decide) fun _ => flagByte_low ..

theorem bitMem_completes (n : BitNo) : s.Completes (bitMem n s) :=
  s.completes_regs _ (by decide) fun _ => flagByte_low ..

theorem resReg_completes (n : BitNo) (r : R8) : s.Completes (resReg n r s) :=
  s.completes_regs _ (by decide) (by rw [Regs.set8_f]; exact id)

theorem setReg_completes (n : BitNo) (r : R8) : s.Completes (setReg n r s) :=
  s.completes_regs _ (by decide) (by rw [Regs.set8_f]; exact id)

theorem resMem_completes (n : BitNo) : s.Completes (resMem n s) := storeAt_completes s _ _ (by decide)

theorem setMem_completes (n : BitNo) : s.Completes (setMem n s) := storeAt_completes s _ _ (by decide)

theorem noOperation_completes : s.Completes (noOperation s) := s.completes_regs s.regs (by decide) id

/-- A branch not taken spends its cost. -/
theorem State.completes_charge {n : Nat} (hn : n ∈ [4, 8, 12, 16, 20, 24]) : s.Completes (.next (s.charge n)) :=
  s.completes_regs s.regs hn id

theorem jump_completes (a : Word) {n : Nat} (hn : n ∈ [4, 8, 12, 16, 20, 24]) : s.Completes (jump a n s) :=
  s.completes_regs _ hn id

theorem jumpIf_completes (cc : Cond) (a : Word) {m n : Nat} (hm : m ∈ [4, 8, 12, 16, 20, 24])
    (hn : n ∈ [4, 8, 12, 16, 20, 24]) : s.Completes (jumpIf cc a m n s) := by
  unfold jumpIf
  split_ifs
  · exact jump_completes s a hm
  · exact s.completes_charge hn

theorem call_completes (a : Word) {n : Nat} (hn : n ∈ [4, 8, 12, 16, 20, 24]) : s.Completes (call a n s) := by
  unfold call
  rw [State.push16_eq]
  exact s.completes_two _ _ _ _ { s.regs with sp := s.regs.sp - 2, pc := a } hn id

theorem callIf_completes (cc : Cond) (a : Word) : s.Completes (callIf cc a s) := by
  unfold callIf
  split_ifs
  · exact call_completes s a (by decide)
  · exact s.completes_charge (by decide)

theorem ret_completes {n : Nat} (hn : n ∈ [4, 8, 12, 16, 20, 24]) : s.Completes (ret n s) :=
  s.completes_regs { s.regs with sp := s.regs.sp + 2, pc := s.popValue } hn id

theorem retIf_completes (cc : Cond) : s.Completes (retIf cc s) := by
  unfold retIf
  split_ifs
  · exact ret_completes s (by decide)
  · exact s.completes_charge (by decide)

theorem retInterrupt_completes : s.Completes (retInterrupt s) :=
  ⟨_, rfl, ⟨rfl, rfl, rfl, ⟨16, by decide, rfl⟩, id, .inl rfl, .inl rfl⟩, .inl rfl⟩

theorem halt_completes : s.Completes (halt s) := by
  unfold halt
  split_ifs with h
  · refine ⟨_, rfl, ⟨rfl, rfl, rfl, ⟨4, by decide, rfl⟩, id, .inl rfl, .inr ⟨rfl, ?_⟩⟩, .inl rfl⟩
    exact (Bool.and_eq_true_iff.1 h).2
  · exact ⟨_, rfl, ⟨rfl, rfl, rfl, ⟨4, by decide, rfl⟩, id, .inr (.inl rfl), .inl rfl⟩, .inl rfl⟩

theorem stop_completes : s.Completes (stop s) := by
  unfold stop
  split
  · exact s.completes_charge (by decide)
  · exact ⟨_, rfl, ⟨rfl, rfl, rfl, ⟨4, by decide, rfl⟩, id, .inr (.inl rfl), .inl rfl⟩, .inl rfl⟩

theorem disableInterrupts_completes : s.Completes (disableInterrupts s) :=
  ⟨_, rfl, ⟨rfl, rfl, rfl, ⟨4, by decide, rfl⟩, id, .inl rfl, .inl rfl⟩, .inl rfl⟩

theorem enableInterrupts_completes : s.Completes (enableInterrupts s) :=
  ⟨_, rfl, ⟨rfl, rfl, rfl, ⟨4, by decide, rfl⟩, id, .inl rfl, .inl rfl⟩, .inl rfl⟩

theorem unassigned_completes : s.Completes (unassigned s) := by
  unfold unassigned
  split
  · exact s.completes_charge (by decide)
  · next h => exact ⟨_, rfl, ⟨rfl, rfl, rfl, ⟨4, by decide, rfl⟩, id, .inr (.inr ⟨rfl, h⟩), .inl rfl⟩, .inl rfl⟩

theorem runPrefixed_completes (b : Byte) : s.Completes (runPrefixed b s) := by
  unfold runPrefixed
  split
  · exact rotReg_completes s _ _
  · exact rotMem_completes s _
  · exact bitReg_completes s _ _
  · exact bitMem_completes s _
  · exact resReg_completes s _ _
  · exact resMem_completes s _
  · exact setReg_completes s _ _
  · exact setMem_completes s _

/-- Everything an instruction can do (R156, R400): each of the 512 completes from every state. -/
theorem exec_completes (i : Instr) : s.Completes (exec i s) := by
  cases i
  case ld_b_b | ld_b_c | ld_b_d | ld_b_e | ld_b_h | ld_b_l | ld_b_a | ld_c_b | ld_c_c | ld_c_d | ld_c_e | ld_c_h |
      ld_c_l | ld_c_a | ld_d_b | ld_d_c | ld_d_d | ld_d_e | ld_d_h | ld_d_l | ld_d_a | ld_e_b | ld_e_c | ld_e_d |
      ld_e_e | ld_e_h | ld_e_l | ld_e_a | ld_h_b | ld_h_c | ld_h_d | ld_h_e | ld_h_h | ld_h_l | ld_h_a | ld_l_b |
      ld_l_c | ld_l_d | ld_l_e | ld_l_h | ld_l_l | ld_l_a | ld_a_b | ld_a_c | ld_a_d | ld_a_e | ld_a_h | ld_a_l |
      ld_a_a =>
    exact loadRegReg_completes s _ _
  case ld_b_n8 | ld_c_n8 | ld_d_n8 | ld_e_n8 | ld_h_n8 | ld_l_n8 | ld_a_n8 =>
    exact loadRegImm_completes s _ _
  case ld_b_mhl | ld_c_mhl | ld_d_mhl | ld_e_mhl | ld_h_mhl | ld_l_mhl | ld_a_mhl | ld_a_mbc | ld_a_mde | ld_a_ma16 |
      ldh_a_ma8 | ld_a_mc =>
    exact loadFrom_completes s _ _ (by decide)
  case ld_mhl_b | ld_mhl_c | ld_mhl_d | ld_mhl_e | ld_mhl_h | ld_mhl_l | ld_mhl_a | ld_mhl_n8 | ld_mbc_a | ld_mde_a |
      ld_ma16_a | ldh_ma8_a | ld_mc_a =>
    exact storeAt_completes s _ _ (by decide)
  case ld_a_mhli | ld_a_mhld =>
    exact loadAndStep_completes s _
  case ld_mhli_a | ld_mhld_a =>
    exact storeAndStep_completes s _
  case ld_bc_n16 | ld_de_n16 | ld_hl_n16 | ld_sp_n16 =>
    exact loadPairImm_completes s _ _
  case ld_ma16_sp =>
    exact storeSp_completes s _
  case ld_sp_hl =>
    exact loadSpHl_completes s
  case ld_hl_spe8 =>
    exact loadHlSp_completes s _
  case push_bc | push_de | push_hl | push_af =>
    exact pushPair_completes s _
  case pop_bc | pop_de | pop_hl | pop_af =>
    exact popPair_completes s _
  case add_a_b | add_a_c | add_a_d | add_a_e | add_a_h | add_a_l | add_a_a | adc_a_b | adc_a_c | adc_a_d | adc_a_e |
      adc_a_h | adc_a_l | adc_a_a | sub_b | sub_c | sub_d | sub_e | sub_h | sub_l | sub_a | sbc_a_b | sbc_a_c |
      sbc_a_d | sbc_a_e | sbc_a_h | sbc_a_l | sbc_a_a | and_b | and_c | and_d | and_e | and_h | and_l | and_a | xor_b
      | xor_c | xor_d | xor_e | xor_h | xor_l | xor_a | or_b | or_c | or_d | or_e | or_h | or_l | or_a | cp_b | cp_c |
      cp_d | cp_e | cp_h | cp_l | cp_a =>
    exact aluReg_completes s _ _
  case add_a_mhl | adc_a_mhl | sub_mhl | sbc_a_mhl | and_mhl | xor_mhl | or_mhl | cp_mhl =>
    exact aluMem_completes s _
  case add_a_n8 | adc_a_n8 | sub_n8 | sbc_a_n8 | and_n8 | xor_n8 | or_n8 | cp_n8 =>
    exact aluImm_completes s _ _
  case inc_b | inc_c | inc_d | inc_e | inc_h | inc_l | inc_a =>
    exact incReg_completes s _
  case inc_mhl =>
    exact incMem_completes s
  case dec_b | dec_c | dec_d | dec_e | dec_h | dec_l | dec_a =>
    exact decReg_completes s _
  case dec_mhl =>
    exact decMem_completes s
  case daa =>
    exact decimalAdjust_completes s
  case cpl =>
    exact complementA_completes s
  case scf =>
    exact setCarry_completes s
  case ccf =>
    exact complementCarry_completes s
  case add_hl_bc | add_hl_de | add_hl_hl | add_hl_sp =>
    exact addHlPair_completes s _
  case inc_bc | inc_de | inc_hl | inc_sp =>
    exact incPair_completes s _
  case dec_bc | dec_de | dec_hl | dec_sp =>
    exact decPair_completes s _
  case add_sp_e8 =>
    exact addSp_completes s _
  case rlca | rrca | rla | rra =>
    exact rotateA_completes s _
  case rlc_b | rlc_c | rlc_d | rlc_e | rlc_h | rlc_l | rlc_a | rrc_b | rrc_c | rrc_d | rrc_e | rrc_h | rrc_l | rrc_a |
      rl_b | rl_c | rl_d | rl_e | rl_h | rl_l | rl_a | rr_b | rr_c | rr_d | rr_e | rr_h | rr_l | rr_a | sla_b | sla_c
      | sla_d | sla_e | sla_h | sla_l | sla_a | sra_b | sra_c | sra_d | sra_e | sra_h | sra_l | sra_a | swap_b |
      swap_c | swap_d | swap_e | swap_h | swap_l | swap_a | srl_b | srl_c | srl_d | srl_e | srl_h | srl_l | srl_a =>
    exact rotReg_completes s _ _
  case rlc_mhl | rrc_mhl | rl_mhl | rr_mhl | sla_mhl | sra_mhl | swap_mhl | srl_mhl =>
    exact rotMem_completes s _
  case bit_0_b | bit_0_c | bit_0_d | bit_0_e | bit_0_h | bit_0_l | bit_0_a | bit_1_b | bit_1_c | bit_1_d | bit_1_e |
      bit_1_h | bit_1_l | bit_1_a | bit_2_b | bit_2_c | bit_2_d | bit_2_e | bit_2_h | bit_2_l | bit_2_a | bit_3_b |
      bit_3_c | bit_3_d | bit_3_e | bit_3_h | bit_3_l | bit_3_a | bit_4_b | bit_4_c | bit_4_d | bit_4_e | bit_4_h |
      bit_4_l | bit_4_a | bit_5_b | bit_5_c | bit_5_d | bit_5_e | bit_5_h | bit_5_l | bit_5_a | bit_6_b | bit_6_c |
      bit_6_d | bit_6_e | bit_6_h | bit_6_l | bit_6_a | bit_7_b | bit_7_c | bit_7_d | bit_7_e | bit_7_h | bit_7_l |
      bit_7_a =>
    exact bitReg_completes s _ _
  case bit_0_mhl | bit_1_mhl | bit_2_mhl | bit_3_mhl | bit_4_mhl | bit_5_mhl | bit_6_mhl | bit_7_mhl =>
    exact bitMem_completes s _
  case res_0_b | res_0_c | res_0_d | res_0_e | res_0_h | res_0_l | res_0_a | res_1_b | res_1_c | res_1_d | res_1_e |
      res_1_h | res_1_l | res_1_a | res_2_b | res_2_c | res_2_d | res_2_e | res_2_h | res_2_l | res_2_a | res_3_b |
      res_3_c | res_3_d | res_3_e | res_3_h | res_3_l | res_3_a | res_4_b | res_4_c | res_4_d | res_4_e | res_4_h |
      res_4_l | res_4_a | res_5_b | res_5_c | res_5_d | res_5_e | res_5_h | res_5_l | res_5_a | res_6_b | res_6_c |
      res_6_d | res_6_e | res_6_h | res_6_l | res_6_a | res_7_b | res_7_c | res_7_d | res_7_e | res_7_h | res_7_l |
      res_7_a =>
    exact resReg_completes s _ _
  case res_0_mhl | res_1_mhl | res_2_mhl | res_3_mhl | res_4_mhl | res_5_mhl | res_6_mhl | res_7_mhl =>
    exact resMem_completes s _
  case set_0_b | set_0_c | set_0_d | set_0_e | set_0_h | set_0_l | set_0_a | set_1_b | set_1_c | set_1_d | set_1_e |
      set_1_h | set_1_l | set_1_a | set_2_b | set_2_c | set_2_d | set_2_e | set_2_h | set_2_l | set_2_a | set_3_b |
      set_3_c | set_3_d | set_3_e | set_3_h | set_3_l | set_3_a | set_4_b | set_4_c | set_4_d | set_4_e | set_4_h |
      set_4_l | set_4_a | set_5_b | set_5_c | set_5_d | set_5_e | set_5_h | set_5_l | set_5_a | set_6_b | set_6_c |
      set_6_d | set_6_e | set_6_h | set_6_l | set_6_a | set_7_b | set_7_c | set_7_d | set_7_e | set_7_h | set_7_l |
      set_7_a =>
    exact setReg_completes s _ _
  case set_0_mhl | set_1_mhl | set_2_mhl | set_3_mhl | set_4_mhl | set_5_mhl | set_6_mhl | set_7_mhl =>
    exact setMem_completes s _
  case jp_a16 | jp_hl | jr_e8 =>
    exact jump_completes s _ (by decide)
  case jp_nz_a16 | jp_z_a16 | jp_nc_a16 | jp_c_a16 | jr_nz_e8 | jr_z_e8 | jr_nc_e8 | jr_c_e8 =>
    exact jumpIf_completes s _ _ (by decide) (by decide)
  case call_a16 | rst_00h | rst_08h | rst_10h | rst_18h | rst_20h | rst_28h | rst_30h | rst_38h =>
    exact call_completes s _ (by decide)
  case call_nz_a16 | call_z_a16 | call_nc_a16 | call_c_a16 =>
    exact callIf_completes s _ _
  case ret =>
    exact ret_completes s (by decide)
  case ret_nz | ret_z | ret_nc | ret_c =>
    exact retIf_completes s _
  case reti =>
    exact retInterrupt_completes s
  case nop =>
    exact noOperation_completes s
  case halt =>
    exact halt_completes s
  case stop_n8 =>
    exact stop_completes s
  case di =>
    exact disableInterrupts_completes s
  case ei =>
    exact enableInterrupts_completes s
  case prefix_cb =>
    exact runPrefixed_completes s _
  case illegal_d3 | illegal_db | illegal_dd | illegal_e3 | illegal_e4 | illegal_eb | illegal_ec | illegal_ed |
      illegal_f4 | illegal_fc | illegal_fd =>
    exact unassigned_completes s

end

/-! ### The fetch and the Update -/

/-- A read does not depend on where the PC is. -/
@[simp] theorem State.setPc_cpuRead (s : State) (v a : Word) : (s.setPc v).cpuRead a = s.cpuRead a :=
  State.over_cpuRead (s.setPc v) s a

theorem State.setPc_setPc (s : State) (v w : Word) : (s.setPc v).setPc w = s.setPc w := rfl

/-- How far a fetch moves the PC: past the opcode, unless the HALT bug holds it, and past its operand bytes (R151, R152). -/
def State.fetchLength (s : State) : Nat := (if s.haltBug then 0 else 1) + skip (s.cpuRead s.regs.pc)

/-- `s` with the PC at `v` and the HALT bug latch clear. -/
def State.fetchedTo (s : State) (v : Word) : State := { s with haltBug := false, regs := { s.regs with pc := v } }

theorem State.fetchedTo_afterFetchByte (s : State) (v : Word) :
    (s.fetchedTo v).afterFetchByte = s.fetchedTo (v + 1) := rfl

theorem State.afterFetchByte_eq (s : State) :
    s.afterFetchByte = s.fetchedTo (s.regs.pc + BitVec.ofNat 16 (if s.haltBug then 0 else 1)) := by
  unfold State.afterFetchByte
  cases hb : s.haltBug
  · simp only [Bool.false_eq_true, if_false, State.fetchedTo]
    rw [← hb]; rfl
  · simp only [if_true, State.fetchedTo]
    rw [show s.regs.pc + BitVec.ofNat 16 0 = s.regs.pc from BitVec.add_zero _]

/-- A fetch moves the PC, clears the HALT bug latch and does nothing else (R151, R152). -/
theorem State.fetch_snd (s : State) : s.fetch.2 = s.fetchedTo (s.regs.pc + BitVec.ofNat 16 s.fetchLength) := by
  have hk := skip_le_two s.fetchByte
  have h3 : s.fetchLength = (if s.haltBug then 0 else 1) + skip s.fetchByte := rfl
  generalize hh : (if s.haltBug then 0 else 1 : Nat) = k at h3
  have h1 := s.afterFetchByte_eq
  rw [hh] at h1
  rcases hs : skip s.fetchByte with _ | _ | _ | n
  case succ.succ.succ => omega
  all_goals
    simp only [State.fetch, h3, hs, h1, State.fetchedTo_afterFetchByte, Nat.zero_add, Nat.add_zero, BitVec.add_assoc,
      BitVec.ofNat_add]
    try rfl

/-- The instruction a fetch reads with the latch clear: the opcode at the PC with the bytes after it (R152). -/
theorem State.fetch_fst (s : State) (h : s.haltBug = false) :
    s.fetch.1 =
      decodeOp (s.cpuRead s.regs.pc) (if skip (s.cpuRead s.regs.pc) = 0 then 0 else s.cpuRead (s.regs.pc + 1))
        (if skip (s.cpuRead s.regs.pc) = 2 then s.cpuRead (s.regs.pc + 2) else 0) := by
  have hk := skip_le_two (s.cpuRead s.regs.pc)
  have h0 : s.fetchByte = s.cpuRead s.regs.pc := rfl
  have h1 : s.afterFetchByte = s.setPc (s.regs.pc + 1) := by simp [State.afterFetchByte, h]
  have h2 : (s.setPc (s.regs.pc + 1)).afterFetchByte = s.setPc (s.regs.pc + 1 + 1) := by
    simp [State.afterFetchByte, h, State.setPc_setPc]
  have h3 : s.regs.pc + 1 + 1 = s.regs.pc + 2 := by rw [BitVec.add_assoc]; rfl
  rcases hs : skip (s.cpuRead s.regs.pc) with _ | _ | _ | n
  · simp only [State.fetch, h0, hs]; rfl
  · simp only [State.fetch, hs, h1, State.fetchByte, State.setPc_cpuRead, State.setPc_regs]; rfl
  · simp only [State.fetch, hs, h1, h2, h3, State.fetchByte, State.setPc_cpuRead, State.setPc_regs]; rfl
  · omega

/-- One instruction runs and the devices catch up with its cycles (R150). -/
theorem executeOne_eq (s : State) :
    ∃ t, exec s.fetch.1 s.fetch.2 = .next t ∧ s.fetch.2.CpuStep t ∧ s.fetch.2.Stored t ∧
      executeOne s = .next (t.advance (t.cycles - s.cycles)) := by
  obtain ⟨t, ht, hc, hs⟩ := exec_completes s.fetch.2 s.fetch.1
  refine ⟨t, ht, hc, hs, ?_⟩
  have h : s.fetch.2.cycles = s.cycles := by rw [State.fetch_snd]; rfl
  simp only [executeOne, ht, State.catchUp, h]

/-- Everything an Update can do (R150). -/
theorem step_cases (s : State) :
    (s.runState = .breakpointPaused ∧ step s = .next s) ∨
    (s.runState = .locked ∧ step s = .next (s.spend 4)) ∨
    (s.runState = .halted ∧ s.pending = 0 ∧ step s = .next (s.spend 4)) ∨
    (s.runState = .halted ∧ s.pending ≠ 0 ∧ step s = .next (({ s with runState := .running } : State).spend 4)) ∨
    (s.runState = .running ∧ s.ime = true ∧ s.pending ≠ 0 ∧
      step s = .next ((s.dispatch (lowestSource s.pending)).spend 20)) ∨
    (s.runState = .running ∧ (s.ime = false ∨ s.pending = 0) ∧ s.breakpointHit = true ∧
      step s = .next { s with runState := .breakpointPaused }) ∨
    (s.runState = .running ∧ (s.ime = false ∨ s.pending = 0) ∧ s.breakpointHit = false ∧
      step s = executeOne s.beginInstr) := by
  unfold step update
  cases hr : s.runState
  · by_cases hd : (s.ime && s.pending != 0) = true
    · rw [Bool.and_eq_true_iff, bne_iff_ne] at hd
      refine .inr (.inr (.inr (.inr (.inl ⟨rfl, hd.1, hd.2, ?_⟩))))
      simp only [hd.1, bne_iff_ne.2 hd.2, Bool.and_self, if_true]
    · have hd' : s.ime = false ∨ s.pending = 0 := by
        cases hi : s.ime
        · exact .inl rfl
        · exact .inr (by simpa [hi] using hd)
      simp only [hd, Bool.false_eq_true, if_false]
      by_cases hb : s.breakpointHit = true
      · refine .inr (.inr (.inr (.inr (.inr (.inl ⟨trivial, hd', hb, ?_⟩)))))
        simp only [hb, if_true]
      · refine .inr (.inr (.inr (.inr (.inr (.inr ⟨trivial, hd', by simpa using hb, ?_⟩)))))
        simp only [hb, Bool.false_eq_true, if_false]
  · by_cases hp : s.pending = 0
    · refine .inr (.inr (.inl ⟨rfl, hp, ?_⟩))
      simp only [hp, bne_self_eq_false, Bool.false_eq_true, if_false]
    · refine .inr (.inr (.inr (.inl ⟨rfl, hp, ?_⟩)))
      simp only [bne_iff_ne.2 hp, if_true]
  · exact .inl ⟨rfl, rfl⟩
  · exact .inr (.inl ⟨rfl, rfl⟩)

end Sys2Proof.Machine
end

