-- ==== Sys2Proof/Laws/Frame.lean ====
section
/-! SUPPORT. The regions of the bus by address range (R62), and what a bus read depends on (R80). -/

namespace Sys2Proof.Machine

/-! ### The regions (R62) -/

/-- The address range of each region (R62). -/
def Region.holds (r : Region) (k : Nat) : Prop :=
  match r with
  | .romLow => k < 0x4000
  | .romHigh => 0x4000 ≤ k ∧ k < 0x8000
  | .vram => 0x8000 ≤ k ∧ k < 0xA000
  | .cartRam => 0xA000 ≤ k ∧ k < 0xC000
  | .wram => 0xC000 ≤ k ∧ k < 0xE000
  | .echo => 0xE000 ≤ k ∧ k < 0xFE00
  | .oam => 0xFE00 ≤ k ∧ k < 0xFEA0
  | .unusable => 0xFEA0 ≤ k ∧ k < 0xFF00
  | .io => 0xFF00 ≤ k ∧ k < 0xFF80
  | .hram => 0xFF80 ≤ k ∧ k < 0xFFFF
  | .ie => k = 0xFFFF

/-- An address is in the range of its region (R62). -/
theorem regionOf_holds (a : Word) : (regionOf a).holds a.toNat := by
  have := a.isLt
  unfold regionOf
  repeat' split
  all_goals simp only [Region.holds]
  all_goals omega

/-- The ranges do not overlap: "every address falls in exactly one" (R62). -/
theorem Region.holds_unique {r q : Region} {k : Nat} (h : r.holds k) (g : q.holds k) : r = q := by
  cases r <;> cases q <;> first | rfl | (exfalso; simp only [Region.holds] at h g; omega)

/-- The region of an address is the one whose range it is in. -/
theorem regionOf_eq {a : Word} {r : Region} (h : r.holds a.toNat) : regionOf a = r :=
  Region.holds_unique (regionOf_holds a) h

theorem regionOf_romLow {a : Word} (h : a.toNat < 0x4000) : regionOf a = .romLow := regionOf_eq h

theorem regionOf_romHigh {a : Word} (h : 0x4000 ≤ a.toNat) (h2 : a.toNat < 0x8000) : regionOf a = .romHigh :=
  regionOf_eq ⟨h, h2⟩

theorem regionOf_vram {a : Word} (h : 0x8000 ≤ a.toNat) (h2 : a.toNat < 0xA000) : regionOf a = .vram :=
  regionOf_eq ⟨h, h2⟩

theorem regionOf_cartRam {a : Word} (h : 0xA000 ≤ a.toNat) (h2 : a.toNat < 0xC000) : regionOf a = .cartRam :=
  regionOf_eq ⟨h, h2⟩

theorem regionOf_wram {a : Word} (h : 0xC000 ≤ a.toNat) (h2 : a.toNat < 0xE000) : regionOf a = .wram :=
  regionOf_eq ⟨h, h2⟩

theorem regionOf_echo {a : Word} (h : 0xE000 ≤ a.toNat) (h2 : a.toNat < 0xFE00) : regionOf a = .echo :=
  regionOf_eq ⟨h, h2⟩

theorem regionOf_oam {a : Word} (h : 0xFE00 ≤ a.toNat) (h2 : a.toNat < 0xFEA0) : regionOf a = .oam :=
  regionOf_eq ⟨h, h2⟩

theorem regionOf_unusable {a : Word} (h : 0xFEA0 ≤ a.toNat) (h2 : a.toNat < 0xFF00) : regionOf a = .unusable :=
  regionOf_eq ⟨h, h2⟩

theorem regionOf_io {a : Word} (h : 0xFF00 ≤ a.toNat) (h2 : a.toNat < 0xFF80) : regionOf a = .io := regionOf_eq ⟨h, h2⟩

theorem regionOf_hram {a : Word} (h : 0xFF80 ≤ a.toNat) (h2 : a.toNat < 0xFFFF) : regionOf a = .hram :=
  regionOf_eq ⟨h, h2⟩

theorem regionOf_ie {a : Word} (h : a.toNat = 0xFFFF) : regionOf a = .ie := regionOf_eq h

/-! ### What a read depends on -/

/-- The bus read of two states with the same memories, mapper, overlay and IE: it is the I/O window that may differ. -/
theorem State.busRead_congr {s t : State} (b : Word) (hm : t.mem = s.mem) (h1 : t.cart = s.cart) (h2 : t.mbc = s.mbc)
    (h3 : t.cartRam = s.cartRam) (h4 : t.bootMapped = s.bootMapped) (h5 : t.params = s.params) (h6 : t.ie = s.ie)
    (hio : regionOf b = .io → t.ioRegRead (ioRegAt b) b = s.ioRegRead (ioRegAt b) b) : t.busRead b = s.busRead b := by
  have e1 : t.bootOverlay b = s.bootOverlay b := by unfold State.bootOverlay; rw [h4]
  have e2 : t.bootByte b = s.bootByte b := by unfold State.bootByte; rw [h5]
  have e3 : t.romRead b = s.romRead b := by unfold State.romRead; rw [h1, h2]
  have e4 : t.cartRamOffset b = s.cartRamOffset b := by unfold State.cartRamOffset; rw [h1, h2]
  unfold State.busRead
  rw [e1, e2, e3, e4, hm, h3, h6]
  cases hb : regionOf b
  case io => exact hio hb
  all_goals rfl

/-- The addresses of the I/O window (R62). -/
theorem io_range {a : Word} (h : regionOf a = .io) : 0xFF00 ≤ a.toNat ∧ a.toNat < 0xFF80 := by
  have := regionOf_holds a
  rw [h] at this
  exact this

/-- The addresses of the echo (R62). -/
theorem echo_range {a : Word} (h : regionOf a = .echo) : 0xE000 ≤ a.toNat ∧ a.toNat < 0xFE00 := by
  have := regionOf_holds a
  rw [h] at this
  exact this

/-- The address of IE (R62). -/
theorem ie_range {a : Word} (h : regionOf a = .ie) : a.toNat = 0xFFFF := by
  have := regionOf_holds a
  rw [h] at this
  exact this

/-- A byte stored in `mem` is seen only at the addresses that stand for it (R68, R80). -/
theorem State.busRead_store_other (s : State) (k : Nat) (v : Byte) (b : Word) (h : ramAlias b ≠ k) :
    (s.store k v).busRead b = s.busRead b := by
  have hr : (s.store k v).mem.read (ramAlias b) = s.mem.read (ramAlias b) := Memory.read_write_other _ _ h
  have al : regionOf b ≠ .echo → ramAlias b = b.toNat := fun h => by unfold ramAlias; rw [if_neg h]
  unfold State.busRead
  cases hb : regionOf b
  case io =>
    rw [al (by rw [hb]; decide)] at hr
    dsimp only
    cases ioRegAt b
    case audio => exact hr
    case unnamed => unfold State.ioRegRead; dsimp only; rw [show (s.store k v).params = s.params from rfl, hr]
    all_goals rfl
  case echo => unfold ramAlias at hr; rw [if_pos hb] at hr; exact hr
  case vram => rw [al (by rw [hb]; decide)] at hr; exact hr
  case wram => rw [al (by rw [hb]; decide)] at hr; exact hr
  case oam => rw [al (by rw [hb]; decide)] at hr; exact hr
  case hram => rw [al (by rw [hb]; decide)] at hr; exact hr
  all_goals rfl

/-- The offset of a named register in the I/O window (R75). -/
def IoReg.offset : IoReg → Nat
  | .p1 => 0x00
  | .sb => 0x01
  | .sc => 0x02
  | .div => 0x04
  | .tima => 0x05
  | .tma => 0x06
  | .tac => 0x07
  | .intFlag => 0x0F
  | .lcdc => 0x40
  | .stat => 0x41
  | .scy => 0x42
  | .scx => 0x43
  | .ly => 0x44
  | .lyc => 0x45
  | .dma => 0x46
  | .bgp => 0x47
  | .obp0 => 0x48
  | .obp1 => 0x49
  | .wy => 0x4A
  | .wx => 0x4B
  | .boot => 0x50
  | .audio => 0x10
  | .unnamed => 0x03

/-- Only the audio and the unnamed bytes share a register name (R75). -/
theorem offset_ioRegOf : ∀ n : Fin 128, ioRegOf n = .audio ∨ ioRegOf n = .unnamed ∨ (ioRegOf n).offset = n := by
  decide +kernel

/-- A named register has one address (R75). -/
theorem ioRegAt_inj {a b : Word} {r : IoReg} (ha : regionOf a = .io) (hb : regionOf b = .io) (h1 : ioRegAt a = r)
    (h2 : ioRegAt b = r) (n1 : r ≠ .audio) (n2 : r ≠ .unnamed) : a = b := by
  have at_offset : ∀ c : Word, regionOf c = .io → ioRegAt c = r → c.toNat = 0xFF00 + r.offset := by
    intro c hc h
    have rc := io_range hc
    have ec : (loByte c).toNat = c.toNat - 0xFF00 := by rw [toNat_loByte]; omega
    have h' : ioRegOf (loByte c).toNat = r := h
    rcases offset_ioRegOf ⟨(loByte c).toNat, by omega⟩ with e | e | e
    · exact absurd (h'.symm.trans e) n1
    · exact absurd (h'.symm.trans e) n2
    · have e' : (ioRegOf (loByte c).toNat).offset = (loByte c).toNat := e
      rw [h'] at e'
      omega
  exact BitVec.eq_of_toNat_eq ((at_offset a ha h1).trans (at_offset b hb h2).symm)

/-- The DMA copy is seen only in OAM (R436). -/
theorem State.busRead_dmaFold (v : Byte) (b : Word) (hb : regionOf b ≠ .oam) (l : List Nat) (hl : ∀ i ∈ l, i < 160)
    (s : State) :
    (l.foldl (fun t i => t.dmaByte v i) s).busRead b = s.busRead b := by
  induction l generalizing s with
  | nil => rfl
  | cons i r ih =>
    rw [List.foldl_cons, ih (fun j hj => hl j (List.mem_cons_of_mem _ hj))]
    apply State.busRead_store_other
    have hi := hl i List.mem_cons_self
    intro h
    apply hb
    unfold ramAlias at h
    split at h
    · next h' => have := echo_range h'; omega
    · exact regionOf_oam (by omega) (by omega)

/-- A TIMA increment writes TIMA and the requests only (R424). -/
theorem State.timaIncrement_eq (s : State) :
    ∃ x f, s.timaIncrement = { s with timer := { s.timer with tima := x }, ifBits := f } := by
  unfold State.timaIncrement
  split_ifs
  · exact ⟨_, _, rfl⟩
  · exact ⟨_, _, rfl⟩

/-- A timer update leaves the new timer with some TIMA, and writes the requests only besides (R423, R426). -/
theorem State.timerUpdate_eq (s : State) (t : Timer) :
    ∃ x f, s.timerUpdate t = { s with timer := { t with tima := x }, ifBits := f } := by
  unfold State.timerUpdate
  split_ifs
  · exact State.timaIncrement_eq { s with timer := t }
  · exact ⟨_, _, rfl⟩

/-- `UpdateStatLine()` writes the STAT line and the requests only (R453). -/
theorem State.updateStatLine_eq (s : State) :
    ∃ f, s.updateStatLine =
      { s with ifBits := f, ppu := { s.ppu with statLine := s.ppu.lcdOn && s.ppu.statCondition } } := by
  have h := State.updateStatLine_devicesOnly s
  unfold State.DevicesOnly at h
  rw [State.updateStatLine_timer, State.updateStatLine_ppu] at h
  exact ⟨_, h⟩

/-- A write to LCDC writes the register, the position, the STAT line and the requests only (R455). -/
theorem State.writeLcdc_eq (s : State) (v : Byte) :
    ∃ f ly dot mode w l, s.writeLcdc v =
      { s with ifBits := f, ppu := { s.ppu with
          lcdc := v, ly := ly, dot := dot, mode := mode, winLine := w, statLine := l } } := by
  unfold State.writeLcdc
  split_ifs
  · exact ⟨_, _, _, _, _, _, rfl⟩
  · obtain ⟨f, hf⟩ := State.updateStatLine_eq
      { s with ppu := { s.ppu with lcdc := v, ly := 0, dot := 0, mode := .searchOam, winLine := 0 } }
    rw [hf]; exact ⟨_, _, _, _, _, _, rfl⟩
  · exact ⟨_, _, _, _, _, _, rfl⟩

end Sys2Proof.Machine
end

