-- ==== Sys2Proof/Laws/PerInstr.lean ====
section
/-! SUPPORT. The family RoundTrip: for each constructor, decoding the encoding of the instruction gives it back (R130, R136,
R142, R143). -/

namespace Sys2Proof.Laws.RoundTrip

/-- What is stated of every instruction: if it is well formed, its encoding followed by any bytes decodes to it and leaves
those bytes. -/
def Statement (i : Instr) : Prop :=
  i.wellFormed = true → ∀ rest : List Byte, decode (encode i ++ rest) = .ok (i, rest)

theorem nop : Statement .nop := fun _ _ => rfl
theorem ld_bc_n16 (n : Word) : Statement (.ld_bc_n16 n) := fun _ rest =>
  (decode_of_skip_two rfl (loByte n) (hiByte n) rest).trans
    (congrArg (fun v => Except.ok (Instr.ld_bc_n16 v, rest)) (wordOf_hiByte_loByte n))
theorem ld_mbc_a : Statement .ld_mbc_a := fun _ _ => rfl
theorem inc_bc : Statement .inc_bc := fun _ _ => rfl
theorem inc_b : Statement .inc_b := fun _ _ => rfl
theorem dec_b : Statement .dec_b := fun _ _ => rfl
theorem ld_b_n8 (n : Byte) : Statement (.ld_b_n8 n) := fun _ _ => rfl
theorem rlca : Statement .rlca := fun _ _ => rfl
theorem ld_ma16_sp (n : Word) : Statement (.ld_ma16_sp n) := fun _ rest =>
  (decode_of_skip_two rfl (loByte n) (hiByte n) rest).trans
    (congrArg (fun v => Except.ok (Instr.ld_ma16_sp v, rest)) (wordOf_hiByte_loByte n))
theorem add_hl_bc : Statement .add_hl_bc := fun _ _ => rfl
theorem ld_a_mbc : Statement .ld_a_mbc := fun _ _ => rfl
theorem dec_bc : Statement .dec_bc := fun _ _ => rfl
theorem inc_c : Statement .inc_c := fun _ _ => rfl
theorem dec_c : Statement .dec_c := fun _ _ => rfl
theorem ld_c_n8 (n : Byte) : Statement (.ld_c_n8 n) := fun _ _ => rfl
theorem rrca : Statement .rrca := fun _ _ => rfl
theorem stop_n8 (n : Byte) : Statement (.stop_n8 n) := fun _ _ => rfl
theorem ld_de_n16 (n : Word) : Statement (.ld_de_n16 n) := fun _ rest =>
  (decode_of_skip_two rfl (loByte n) (hiByte n) rest).trans
    (congrArg (fun v => Except.ok (Instr.ld_de_n16 v, rest)) (wordOf_hiByte_loByte n))
theorem ld_mde_a : Statement .ld_mde_a := fun _ _ => rfl
theorem inc_de : Statement .inc_de := fun _ _ => rfl
theorem inc_d : Statement .inc_d := fun _ _ => rfl
theorem dec_d : Statement .dec_d := fun _ _ => rfl
theorem ld_d_n8 (n : Byte) : Statement (.ld_d_n8 n) := fun _ _ => rfl
theorem rla : Statement .rla := fun _ _ => rfl
theorem jr_e8 (e : Byte) : Statement (.jr_e8 e) := fun _ _ => rfl
theorem add_hl_de : Statement .add_hl_de := fun _ _ => rfl
theorem ld_a_mde : Statement .ld_a_mde := fun _ _ => rfl
theorem dec_de : Statement .dec_de := fun _ _ => rfl
theorem inc_e : Statement .inc_e := fun _ _ => rfl
theorem dec_e : Statement .dec_e := fun _ _ => rfl
theorem ld_e_n8 (n : Byte) : Statement (.ld_e_n8 n) := fun _ _ => rfl
theorem rra : Statement .rra := fun _ _ => rfl
theorem jr_nz_e8 (e : Byte) : Statement (.jr_nz_e8 e) := fun _ _ => rfl
theorem ld_hl_n16 (n : Word) : Statement (.ld_hl_n16 n) := fun _ rest =>
  (decode_of_skip_two rfl (loByte n) (hiByte n) rest).trans
    (congrArg (fun v => Except.ok (Instr.ld_hl_n16 v, rest)) (wordOf_hiByte_loByte n))
theorem ld_mhli_a : Statement .ld_mhli_a := fun _ _ => rfl
theorem inc_hl : Statement .inc_hl := fun _ _ => rfl
theorem inc_h : Statement .inc_h := fun _ _ => rfl
theorem dec_h : Statement .dec_h := fun _ _ => rfl
theorem ld_h_n8 (n : Byte) : Statement (.ld_h_n8 n) := fun _ _ => rfl
theorem daa : Statement .daa := fun _ _ => rfl
theorem jr_z_e8 (e : Byte) : Statement (.jr_z_e8 e) := fun _ _ => rfl
theorem add_hl_hl : Statement .add_hl_hl := fun _ _ => rfl
theorem ld_a_mhli : Statement .ld_a_mhli := fun _ _ => rfl
theorem dec_hl : Statement .dec_hl := fun _ _ => rfl
theorem inc_l : Statement .inc_l := fun _ _ => rfl
theorem dec_l : Statement .dec_l := fun _ _ => rfl
theorem ld_l_n8 (n : Byte) : Statement (.ld_l_n8 n) := fun _ _ => rfl
theorem cpl : Statement .cpl := fun _ _ => rfl
theorem jr_nc_e8 (e : Byte) : Statement (.jr_nc_e8 e) := fun _ _ => rfl
theorem ld_sp_n16 (n : Word) : Statement (.ld_sp_n16 n) := fun _ rest =>
  (decode_of_skip_two rfl (loByte n) (hiByte n) rest).trans
    (congrArg (fun v => Except.ok (Instr.ld_sp_n16 v, rest)) (wordOf_hiByte_loByte n))
theorem ld_mhld_a : Statement .ld_mhld_a := fun _ _ => rfl
theorem inc_sp : Statement .inc_sp := fun _ _ => rfl
theorem inc_mhl : Statement .inc_mhl := fun _ _ => rfl
theorem dec_mhl : Statement .dec_mhl := fun _ _ => rfl
theorem ld_mhl_n8 (n : Byte) : Statement (.ld_mhl_n8 n) := fun _ _ => rfl
theorem scf : Statement .scf := fun _ _ => rfl
theorem jr_c_e8 (e : Byte) : Statement (.jr_c_e8 e) := fun _ _ => rfl
theorem add_hl_sp : Statement .add_hl_sp := fun _ _ => rfl
theorem ld_a_mhld : Statement .ld_a_mhld := fun _ _ => rfl
theorem dec_sp : Statement .dec_sp := fun _ _ => rfl
theorem inc_a : Statement .inc_a := fun _ _ => rfl
theorem dec_a : Statement .dec_a := fun _ _ => rfl
theorem ld_a_n8 (n : Byte) : Statement (.ld_a_n8 n) := fun _ _ => rfl
theorem ccf : Statement .ccf := fun _ _ => rfl
theorem ld_b_b : Statement .ld_b_b := fun _ _ => rfl
theorem ld_b_c : Statement .ld_b_c := fun _ _ => rfl
theorem ld_b_d : Statement .ld_b_d := fun _ _ => rfl
theorem ld_b_e : Statement .ld_b_e := fun _ _ => rfl
theorem ld_b_h : Statement .ld_b_h := fun _ _ => rfl
theorem ld_b_l : Statement .ld_b_l := fun _ _ => rfl
theorem ld_b_mhl : Statement .ld_b_mhl := fun _ _ => rfl
theorem ld_b_a : Statement .ld_b_a := fun _ _ => rfl
theorem ld_c_b : Statement .ld_c_b := fun _ _ => rfl
theorem ld_c_c : Statement .ld_c_c := fun _ _ => rfl
theorem ld_c_d : Statement .ld_c_d := fun _ _ => rfl
theorem ld_c_e : Statement .ld_c_e := fun _ _ => rfl
theorem ld_c_h : Statement .ld_c_h := fun _ _ => rfl
theorem ld_c_l : Statement .ld_c_l := fun _ _ => rfl
theorem ld_c_mhl : Statement .ld_c_mhl := fun _ _ => rfl
theorem ld_c_a : Statement .ld_c_a := fun _ _ => rfl
theorem ld_d_b : Statement .ld_d_b := fun _ _ => rfl
theorem ld_d_c : Statement .ld_d_c := fun _ _ => rfl
theorem ld_d_d : Statement .ld_d_d := fun _ _ => rfl
theorem ld_d_e : Statement .ld_d_e := fun _ _ => rfl
theorem ld_d_h : Statement .ld_d_h := fun _ _ => rfl
theorem ld_d_l : Statement .ld_d_l := fun _ _ => rfl
theorem ld_d_mhl : Statement .ld_d_mhl := fun _ _ => rfl
theorem ld_d_a : Statement .ld_d_a := fun _ _ => rfl
theorem ld_e_b : Statement .ld_e_b := fun _ _ => rfl
theorem ld_e_c : Statement .ld_e_c := fun _ _ => rfl
theorem ld_e_d : Statement .ld_e_d := fun _ _ => rfl
theorem ld_e_e : Statement .ld_e_e := fun _ _ => rfl
theorem ld_e_h : Statement .ld_e_h := fun _ _ => rfl
theorem ld_e_l : Statement .ld_e_l := fun _ _ => rfl
theorem ld_e_mhl : Statement .ld_e_mhl := fun _ _ => rfl
theorem ld_e_a : Statement .ld_e_a := fun _ _ => rfl
theorem ld_h_b : Statement .ld_h_b := fun _ _ => rfl
theorem ld_h_c : Statement .ld_h_c := fun _ _ => rfl
theorem ld_h_d : Statement .ld_h_d := fun _ _ => rfl
theorem ld_h_e : Statement .ld_h_e := fun _ _ => rfl
theorem ld_h_h : Statement .ld_h_h := fun _ _ => rfl
theorem ld_h_l : Statement .ld_h_l := fun _ _ => rfl
theorem ld_h_mhl : Statement .ld_h_mhl := fun _ _ => rfl
theorem ld_h_a : Statement .ld_h_a := fun _ _ => rfl
theorem ld_l_b : Statement .ld_l_b := fun _ _ => rfl
theorem ld_l_c : Statement .ld_l_c := fun _ _ => rfl
theorem ld_l_d : Statement .ld_l_d := fun _ _ => rfl
theorem ld_l_e : Statement .ld_l_e := fun _ _ => rfl
theorem ld_l_h : Statement .ld_l_h := fun _ _ => rfl
theorem ld_l_l : Statement .ld_l_l := fun _ _ => rfl
theorem ld_l_mhl : Statement .ld_l_mhl := fun _ _ => rfl
theorem ld_l_a : Statement .ld_l_a := fun _ _ => rfl
theorem ld_mhl_b : Statement .ld_mhl_b := fun _ _ => rfl
theorem ld_mhl_c : Statement .ld_mhl_c := fun _ _ => rfl
theorem ld_mhl_d : Statement .ld_mhl_d := fun _ _ => rfl
theorem ld_mhl_e : Statement .ld_mhl_e := fun _ _ => rfl
theorem ld_mhl_h : Statement .ld_mhl_h := fun _ _ => rfl
theorem ld_mhl_l : Statement .ld_mhl_l := fun _ _ => rfl
theorem halt : Statement .halt := fun _ _ => rfl
theorem ld_mhl_a : Statement .ld_mhl_a := fun _ _ => rfl
theorem ld_a_b : Statement .ld_a_b := fun _ _ => rfl
theorem ld_a_c : Statement .ld_a_c := fun _ _ => rfl
theorem ld_a_d : Statement .ld_a_d := fun _ _ => rfl
theorem ld_a_e : Statement .ld_a_e := fun _ _ => rfl
theorem ld_a_h : Statement .ld_a_h := fun _ _ => rfl
theorem ld_a_l : Statement .ld_a_l := fun _ _ => rfl
theorem ld_a_mhl : Statement .ld_a_mhl := fun _ _ => rfl
theorem ld_a_a : Statement .ld_a_a := fun _ _ => rfl
theorem add_a_b : Statement .add_a_b := fun _ _ => rfl
theorem add_a_c : Statement .add_a_c := fun _ _ => rfl
theorem add_a_d : Statement .add_a_d := fun _ _ => rfl
theorem add_a_e : Statement .add_a_e := fun _ _ => rfl
theorem add_a_h : Statement .add_a_h := fun _ _ => rfl
theorem add_a_l : Statement .add_a_l := fun _ _ => rfl
theorem add_a_mhl : Statement .add_a_mhl := fun _ _ => rfl
theorem add_a_a : Statement .add_a_a := fun _ _ => rfl
theorem adc_a_b : Statement .adc_a_b := fun _ _ => rfl
theorem adc_a_c : Statement .adc_a_c := fun _ _ => rfl
theorem adc_a_d : Statement .adc_a_d := fun _ _ => rfl
theorem adc_a_e : Statement .adc_a_e := fun _ _ => rfl
theorem adc_a_h : Statement .adc_a_h := fun _ _ => rfl
theorem adc_a_l : Statement .adc_a_l := fun _ _ => rfl
theorem adc_a_mhl : Statement .adc_a_mhl := fun _ _ => rfl
theorem adc_a_a : Statement .adc_a_a := fun _ _ => rfl
theorem sub_b : Statement .sub_b := fun _ _ => rfl
theorem sub_c : Statement .sub_c := fun _ _ => rfl
theorem sub_d : Statement .sub_d := fun _ _ => rfl
theorem sub_e : Statement .sub_e := fun _ _ => rfl
theorem sub_h : Statement .sub_h := fun _ _ => rfl
theorem sub_l : Statement .sub_l := fun _ _ => rfl
theorem sub_mhl : Statement .sub_mhl := fun _ _ => rfl
theorem sub_a : Statement .sub_a := fun _ _ => rfl
theorem sbc_a_b : Statement .sbc_a_b := fun _ _ => rfl
theorem sbc_a_c : Statement .sbc_a_c := fun _ _ => rfl
theorem sbc_a_d : Statement .sbc_a_d := fun _ _ => rfl
theorem sbc_a_e : Statement .sbc_a_e := fun _ _ => rfl
theorem sbc_a_h : Statement .sbc_a_h := fun _ _ => rfl
theorem sbc_a_l : Statement .sbc_a_l := fun _ _ => rfl
theorem sbc_a_mhl : Statement .sbc_a_mhl := fun _ _ => rfl
theorem sbc_a_a : Statement .sbc_a_a := fun _ _ => rfl
theorem and_b : Statement .and_b := fun _ _ => rfl
theorem and_c : Statement .and_c := fun _ _ => rfl
theorem and_d : Statement .and_d := fun _ _ => rfl
theorem and_e : Statement .and_e := fun _ _ => rfl
theorem and_h : Statement .and_h := fun _ _ => rfl
theorem and_l : Statement .and_l := fun _ _ => rfl
theorem and_mhl : Statement .and_mhl := fun _ _ => rfl
theorem and_a : Statement .and_a := fun _ _ => rfl
theorem xor_b : Statement .xor_b := fun _ _ => rfl
theorem xor_c : Statement .xor_c := fun _ _ => rfl
theorem xor_d : Statement .xor_d := fun _ _ => rfl
theorem xor_e : Statement .xor_e := fun _ _ => rfl
theorem xor_h : Statement .xor_h := fun _ _ => rfl
theorem xor_l : Statement .xor_l := fun _ _ => rfl
theorem xor_mhl : Statement .xor_mhl := fun _ _ => rfl
theorem xor_a : Statement .xor_a := fun _ _ => rfl
theorem or_b : Statement .or_b := fun _ _ => rfl
theorem or_c : Statement .or_c := fun _ _ => rfl
theorem or_d : Statement .or_d := fun _ _ => rfl
theorem or_e : Statement .or_e := fun _ _ => rfl
theorem or_h : Statement .or_h := fun _ _ => rfl
theorem or_l : Statement .or_l := fun _ _ => rfl
theorem or_mhl : Statement .or_mhl := fun _ _ => rfl
theorem or_a : Statement .or_a := fun _ _ => rfl
theorem cp_b : Statement .cp_b := fun _ _ => rfl
theorem cp_c : Statement .cp_c := fun _ _ => rfl
theorem cp_d : Statement .cp_d := fun _ _ => rfl
theorem cp_e : Statement .cp_e := fun _ _ => rfl
theorem cp_h : Statement .cp_h := fun _ _ => rfl
theorem cp_l : Statement .cp_l := fun _ _ => rfl
theorem cp_mhl : Statement .cp_mhl := fun _ _ => rfl
theorem cp_a : Statement .cp_a := fun _ _ => rfl
theorem ret_nz : Statement .ret_nz := fun _ _ => rfl
theorem pop_bc : Statement .pop_bc := fun _ _ => rfl
theorem jp_nz_a16 (n : Word) : Statement (.jp_nz_a16 n) := fun _ rest =>
  (decode_of_skip_two rfl (loByte n) (hiByte n) rest).trans
    (congrArg (fun v => Except.ok (Instr.jp_nz_a16 v, rest)) (wordOf_hiByte_loByte n))
theorem jp_a16 (n : Word) : Statement (.jp_a16 n) := fun _ rest =>
  (decode_of_skip_two rfl (loByte n) (hiByte n) rest).trans
    (congrArg (fun v => Except.ok (Instr.jp_a16 v, rest)) (wordOf_hiByte_loByte n))
theorem call_nz_a16 (n : Word) : Statement (.call_nz_a16 n) := fun _ rest =>
  (decode_of_skip_two rfl (loByte n) (hiByte n) rest).trans
    (congrArg (fun v => Except.ok (Instr.call_nz_a16 v, rest)) (wordOf_hiByte_loByte n))
theorem push_bc : Statement .push_bc := fun _ _ => rfl
theorem add_a_n8 (n : Byte) : Statement (.add_a_n8 n) := fun _ _ => rfl
theorem rst_00h : Statement .rst_00h := fun _ _ => rfl
theorem ret_z : Statement .ret_z := fun _ _ => rfl
theorem ret : Statement .ret := fun _ _ => rfl
theorem jp_z_a16 (n : Word) : Statement (.jp_z_a16 n) := fun _ rest =>
  (decode_of_skip_two rfl (loByte n) (hiByte n) rest).trans
    (congrArg (fun v => Except.ok (Instr.jp_z_a16 v, rest)) (wordOf_hiByte_loByte n))
theorem prefix_cb (b : Byte) : Statement (.prefix_cb b) := fun h => nomatch h
theorem call_z_a16 (n : Word) : Statement (.call_z_a16 n) := fun _ rest =>
  (decode_of_skip_two rfl (loByte n) (hiByte n) rest).trans
    (congrArg (fun v => Except.ok (Instr.call_z_a16 v, rest)) (wordOf_hiByte_loByte n))
theorem call_a16 (n : Word) : Statement (.call_a16 n) := fun _ rest =>
  (decode_of_skip_two rfl (loByte n) (hiByte n) rest).trans
    (congrArg (fun v => Except.ok (Instr.call_a16 v, rest)) (wordOf_hiByte_loByte n))
theorem adc_a_n8 (n : Byte) : Statement (.adc_a_n8 n) := fun _ _ => rfl
theorem rst_08h : Statement .rst_08h := fun _ _ => rfl
theorem ret_nc : Statement .ret_nc := fun _ _ => rfl
theorem pop_de : Statement .pop_de := fun _ _ => rfl
theorem jp_nc_a16 (n : Word) : Statement (.jp_nc_a16 n) := fun _ rest =>
  (decode_of_skip_two rfl (loByte n) (hiByte n) rest).trans
    (congrArg (fun v => Except.ok (Instr.jp_nc_a16 v, rest)) (wordOf_hiByte_loByte n))
theorem illegal_d3 : Statement .illegal_d3 := fun _ _ => rfl
theorem call_nc_a16 (n : Word) : Statement (.call_nc_a16 n) := fun _ rest =>
  (decode_of_skip_two rfl (loByte n) (hiByte n) rest).trans
    (congrArg (fun v => Except.ok (Instr.call_nc_a16 v, rest)) (wordOf_hiByte_loByte n))
theorem push_de : Statement .push_de := fun _ _ => rfl
theorem sub_n8 (n : Byte) : Statement (.sub_n8 n) := fun _ _ => rfl
theorem rst_10h : Statement .rst_10h := fun _ _ => rfl
theorem ret_c : Statement .ret_c := fun _ _ => rfl
theorem reti : Statement .reti := fun _ _ => rfl
theorem jp_c_a16 (n : Word) : Statement (.jp_c_a16 n) := fun _ rest =>
  (decode_of_skip_two rfl (loByte n) (hiByte n) rest).trans
    (congrArg (fun v => Except.ok (Instr.jp_c_a16 v, rest)) (wordOf_hiByte_loByte n))
theorem illegal_db : Statement .illegal_db := fun _ _ => rfl
theorem call_c_a16 (n : Word) : Statement (.call_c_a16 n) := fun _ rest =>
  (decode_of_skip_two rfl (loByte n) (hiByte n) rest).trans
    (congrArg (fun v => Except.ok (Instr.call_c_a16 v, rest)) (wordOf_hiByte_loByte n))
theorem illegal_dd : Statement .illegal_dd := fun _ _ => rfl
theorem sbc_a_n8 (n : Byte) : Statement (.sbc_a_n8 n) := fun _ _ => rfl
theorem rst_18h : Statement .rst_18h := fun _ _ => rfl
theorem ldh_ma8_a (n : Byte) : Statement (.ldh_ma8_a n) := fun _ _ => rfl
theorem pop_hl : Statement .pop_hl := fun _ _ => rfl
theorem ld_mc_a : Statement .ld_mc_a := fun _ _ => rfl
theorem illegal_e3 : Statement .illegal_e3 := fun _ _ => rfl
theorem illegal_e4 : Statement .illegal_e4 := fun _ _ => rfl
theorem push_hl : Statement .push_hl := fun _ _ => rfl
theorem and_n8 (n : Byte) : Statement (.and_n8 n) := fun _ _ => rfl
theorem rst_20h : Statement .rst_20h := fun _ _ => rfl
theorem add_sp_e8 (e : Byte) : Statement (.add_sp_e8 e) := fun _ _ => rfl
theorem jp_hl : Statement .jp_hl := fun _ _ => rfl
theorem ld_ma16_a (n : Word) : Statement (.ld_ma16_a n) := fun _ rest =>
  (decode_of_skip_two rfl (loByte n) (hiByte n) rest).trans
    (congrArg (fun v => Except.ok (Instr.ld_ma16_a v, rest)) (wordOf_hiByte_loByte n))
theorem illegal_eb : Statement .illegal_eb := fun _ _ => rfl
theorem illegal_ec : Statement .illegal_ec := fun _ _ => rfl
theorem illegal_ed : Statement .illegal_ed := fun _ _ => rfl
theorem xor_n8 (n : Byte) : Statement (.xor_n8 n) := fun _ _ => rfl
theorem rst_28h : Statement .rst_28h := fun _ _ => rfl
theorem ldh_a_ma8 (n : Byte) : Statement (.ldh_a_ma8 n) := fun _ _ => rfl
theorem pop_af : Statement .pop_af := fun _ _ => rfl
theorem ld_a_mc : Statement .ld_a_mc := fun _ _ => rfl
theorem di : Statement .di := fun _ _ => rfl
theorem illegal_f4 : Statement .illegal_f4 := fun _ _ => rfl
theorem push_af : Statement .push_af := fun _ _ => rfl
theorem or_n8 (n : Byte) : Statement (.or_n8 n) := fun _ _ => rfl
theorem rst_30h : Statement .rst_30h := fun _ _ => rfl
theorem ld_hl_spe8 (e : Byte) : Statement (.ld_hl_spe8 e) := fun _ _ => rfl
theorem ld_sp_hl : Statement .ld_sp_hl := fun _ _ => rfl
theorem ld_a_ma16 (n : Word) : Statement (.ld_a_ma16 n) := fun _ rest =>
  (decode_of_skip_two rfl (loByte n) (hiByte n) rest).trans
    (congrArg (fun v => Except.ok (Instr.ld_a_ma16 v, rest)) (wordOf_hiByte_loByte n))
theorem ei : Statement .ei := fun _ _ => rfl
theorem illegal_fc : Statement .illegal_fc := fun _ _ => rfl
theorem illegal_fd : Statement .illegal_fd := fun _ _ => rfl
theorem cp_n8 (n : Byte) : Statement (.cp_n8 n) := fun _ _ => rfl
theorem rst_38h : Statement .rst_38h := fun _ _ => rfl
theorem rlc_b : Statement .rlc_b := fun _ _ => rfl
theorem rlc_c : Statement .rlc_c := fun _ _ => rfl
theorem rlc_d : Statement .rlc_d := fun _ _ => rfl
theorem rlc_e : Statement .rlc_e := fun _ _ => rfl
theorem rlc_h : Statement .rlc_h := fun _ _ => rfl
theorem rlc_l : Statement .rlc_l := fun _ _ => rfl
theorem rlc_mhl : Statement .rlc_mhl := fun _ _ => rfl
theorem rlc_a : Statement .rlc_a := fun _ _ => rfl
theorem rrc_b : Statement .rrc_b := fun _ _ => rfl
theorem rrc_c : Statement .rrc_c := fun _ _ => rfl
theorem rrc_d : Statement .rrc_d := fun _ _ => rfl
theorem rrc_e : Statement .rrc_e := fun _ _ => rfl
theorem rrc_h : Statement .rrc_h := fun _ _ => rfl
theorem rrc_l : Statement .rrc_l := fun _ _ => rfl
theorem rrc_mhl : Statement .rrc_mhl := fun _ _ => rfl
theorem rrc_a : Statement .rrc_a := fun _ _ => rfl
theorem rl_b : Statement .rl_b := fun _ _ => rfl
theorem rl_c : Statement .rl_c := fun _ _ => rfl
theorem rl_d : Statement .rl_d := fun _ _ => rfl
theorem rl_e : Statement .rl_e := fun _ _ => rfl
theorem rl_h : Statement .rl_h := fun _ _ => rfl
theorem rl_l : Statement .rl_l := fun _ _ => rfl
theorem rl_mhl : Statement .rl_mhl := fun _ _ => rfl
theorem rl_a : Statement .rl_a := fun _ _ => rfl
theorem rr_b : Statement .rr_b := fun _ _ => rfl
theorem rr_c : Statement .rr_c := fun _ _ => rfl
theorem rr_d : Statement .rr_d := fun _ _ => rfl
theorem rr_e : Statement .rr_e := fun _ _ => rfl
theorem rr_h : Statement .rr_h := fun _ _ => rfl
theorem rr_l : Statement .rr_l := fun _ _ => rfl
theorem rr_mhl : Statement .rr_mhl := fun _ _ => rfl
theorem rr_a : Statement .rr_a := fun _ _ => rfl
theorem sla_b : Statement .sla_b := fun _ _ => rfl
theorem sla_c : Statement .sla_c := fun _ _ => rfl
theorem sla_d : Statement .sla_d := fun _ _ => rfl
theorem sla_e : Statement .sla_e := fun _ _ => rfl
theorem sla_h : Statement .sla_h := fun _ _ => rfl
theorem sla_l : Statement .sla_l := fun _ _ => rfl
theorem sla_mhl : Statement .sla_mhl := fun _ _ => rfl
theorem sla_a : Statement .sla_a := fun _ _ => rfl
theorem sra_b : Statement .sra_b := fun _ _ => rfl
theorem sra_c : Statement .sra_c := fun _ _ => rfl
theorem sra_d : Statement .sra_d := fun _ _ => rfl
theorem sra_e : Statement .sra_e := fun _ _ => rfl
theorem sra_h : Statement .sra_h := fun _ _ => rfl
theorem sra_l : Statement .sra_l := fun _ _ => rfl
theorem sra_mhl : Statement .sra_mhl := fun _ _ => rfl
theorem sra_a : Statement .sra_a := fun _ _ => rfl
theorem swap_b : Statement .swap_b := fun _ _ => rfl
theorem swap_c : Statement .swap_c := fun _ _ => rfl
theorem swap_d : Statement .swap_d := fun _ _ => rfl
theorem swap_e : Statement .swap_e := fun _ _ => rfl
theorem swap_h : Statement .swap_h := fun _ _ => rfl
theorem swap_l : Statement .swap_l := fun _ _ => rfl
theorem swap_mhl : Statement .swap_mhl := fun _ _ => rfl
theorem swap_a : Statement .swap_a := fun _ _ => rfl
theorem srl_b : Statement .srl_b := fun _ _ => rfl
theorem srl_c : Statement .srl_c := fun _ _ => rfl
theorem srl_d : Statement .srl_d := fun _ _ => rfl
theorem srl_e : Statement .srl_e := fun _ _ => rfl
theorem srl_h : Statement .srl_h := fun _ _ => rfl
theorem srl_l : Statement .srl_l := fun _ _ => rfl
theorem srl_mhl : Statement .srl_mhl := fun _ _ => rfl
theorem srl_a : Statement .srl_a := fun _ _ => rfl
theorem bit_0_b : Statement .bit_0_b := fun _ _ => rfl
theorem bit_0_c : Statement .bit_0_c := fun _ _ => rfl
theorem bit_0_d : Statement .bit_0_d := fun _ _ => rfl
theorem bit_0_e : Statement .bit_0_e := fun _ _ => rfl
theorem bit_0_h : Statement .bit_0_h := fun _ _ => rfl
theorem bit_0_l : Statement .bit_0_l := fun _ _ => rfl
theorem bit_0_mhl : Statement .bit_0_mhl := fun _ _ => rfl
theorem bit_0_a : Statement .bit_0_a := fun _ _ => rfl
theorem bit_1_b : Statement .bit_1_b := fun _ _ => rfl
theorem bit_1_c : Statement .bit_1_c := fun _ _ => rfl
theorem bit_1_d : Statement .bit_1_d := fun _ _ => rfl
theorem bit_1_e : Statement .bit_1_e := fun _ _ => rfl
theorem bit_1_h : Statement .bit_1_h := fun _ _ => rfl
theorem bit_1_l : Statement .bit_1_l := fun _ _ => rfl
theorem bit_1_mhl : Statement .bit_1_mhl := fun _ _ => rfl
theorem bit_1_a : Statement .bit_1_a := fun _ _ => rfl
theorem bit_2_b : Statement .bit_2_b := fun _ _ => rfl
theorem bit_2_c : Statement .bit_2_c := fun _ _ => rfl
theorem bit_2_d : Statement .bit_2_d := fun _ _ => rfl
theorem bit_2_e : Statement .bit_2_e := fun _ _ => rfl
theorem bit_2_h : Statement .bit_2_h := fun _ _ => rfl
theorem bit_2_l : Statement .bit_2_l := fun _ _ => rfl
theorem bit_2_mhl : Statement .bit_2_mhl := fun _ _ => rfl
theorem bit_2_a : Statement .bit_2_a := fun _ _ => rfl
theorem bit_3_b : Statement .bit_3_b := fun _ _ => rfl
theorem bit_3_c : Statement .bit_3_c := fun _ _ => rfl
theorem bit_3_d : Statement .bit_3_d := fun _ _ => rfl
theorem bit_3_e : Statement .bit_3_e := fun _ _ => rfl
theorem bit_3_h : Statement .bit_3_h := fun _ _ => rfl
theorem bit_3_l : Statement .bit_3_l := fun _ _ => rfl
theorem bit_3_mhl : Statement .bit_3_mhl := fun _ _ => rfl
theorem bit_3_a : Statement .bit_3_a := fun _ _ => rfl
theorem bit_4_b : Statement .bit_4_b := fun _ _ => rfl
theorem bit_4_c : Statement .bit_4_c := fun _ _ => rfl
theorem bit_4_d : Statement .bit_4_d := fun _ _ => rfl
theorem bit_4_e : Statement .bit_4_e := fun _ _ => rfl
theorem bit_4_h : Statement .bit_4_h := fun _ _ => rfl
theorem bit_4_l : Statement .bit_4_l := fun _ _ => rfl
theorem bit_4_mhl : Statement .bit_4_mhl := fun _ _ => rfl
theorem bit_4_a : Statement .bit_4_a := fun _ _ => rfl
theorem bit_5_b : Statement .bit_5_b := fun _ _ => rfl
theorem bit_5_c : Statement .bit_5_c := fun _ _ => rfl
theorem bit_5_d : Statement .bit_5_d := fun _ _ => rfl
theorem bit_5_e : Statement .bit_5_e := fun _ _ => rfl
theorem bit_5_h : Statement .bit_5_h := fun _ _ => rfl
theorem bit_5_l : Statement .bit_5_l := fun _ _ => rfl
theorem bit_5_mhl : Statement .bit_5_mhl := fun _ _ => rfl
theorem bit_5_a : Statement .bit_5_a := fun _ _ => rfl
theorem bit_6_b : Statement .bit_6_b := fun _ _ => rfl
theorem bit_6_c : Statement .bit_6_c := fun _ _ => rfl
theorem bit_6_d : Statement .bit_6_d := fun _ _ => rfl
theorem bit_6_e : Statement .bit_6_e := fun _ _ => rfl
theorem bit_6_h : Statement .bit_6_h := fun _ _ => rfl
theorem bit_6_l : Statement .bit_6_l := fun _ _ => rfl
theorem bit_6_mhl : Statement .bit_6_mhl := fun _ _ => rfl
theorem bit_6_a : Statement .bit_6_a := fun _ _ => rfl
theorem bit_7_b : Statement .bit_7_b := fun _ _ => rfl
theorem bit_7_c : Statement .bit_7_c := fun _ _ => rfl
theorem bit_7_d : Statement .bit_7_d := fun _ _ => rfl
theorem bit_7_e : Statement .bit_7_e := fun _ _ => rfl
theorem bit_7_h : Statement .bit_7_h := fun _ _ => rfl
theorem bit_7_l : Statement .bit_7_l := fun _ _ => rfl
theorem bit_7_mhl : Statement .bit_7_mhl := fun _ _ => rfl
theorem bit_7_a : Statement .bit_7_a := fun _ _ => rfl
theorem res_0_b : Statement .res_0_b := fun _ _ => rfl
theorem res_0_c : Statement .res_0_c := fun _ _ => rfl
theorem res_0_d : Statement .res_0_d := fun _ _ => rfl
theorem res_0_e : Statement .res_0_e := fun _ _ => rfl
theorem res_0_h : Statement .res_0_h := fun _ _ => rfl
theorem res_0_l : Statement .res_0_l := fun _ _ => rfl
theorem res_0_mhl : Statement .res_0_mhl := fun _ _ => rfl
theorem res_0_a : Statement .res_0_a := fun _ _ => rfl
theorem res_1_b : Statement .res_1_b := fun _ _ => rfl
theorem res_1_c : Statement .res_1_c := fun _ _ => rfl
theorem res_1_d : Statement .res_1_d := fun _ _ => rfl
theorem res_1_e : Statement .res_1_e := fun _ _ => rfl
theorem res_1_h : Statement .res_1_h := fun _ _ => rfl
theorem res_1_l : Statement .res_1_l := fun _ _ => rfl
theorem res_1_mhl : Statement .res_1_mhl := fun _ _ => rfl
theorem res_1_a : Statement .res_1_a := fun _ _ => rfl
theorem res_2_b : Statement .res_2_b := fun _ _ => rfl
theorem res_2_c : Statement .res_2_c := fun _ _ => rfl
theorem res_2_d : Statement .res_2_d := fun _ _ => rfl
theorem res_2_e : Statement .res_2_e := fun _ _ => rfl
theorem res_2_h : Statement .res_2_h := fun _ _ => rfl
theorem res_2_l : Statement .res_2_l := fun _ _ => rfl
theorem res_2_mhl : Statement .res_2_mhl := fun _ _ => rfl
theorem res_2_a : Statement .res_2_a := fun _ _ => rfl
theorem res_3_b : Statement .res_3_b := fun _ _ => rfl
theorem res_3_c : Statement .res_3_c := fun _ _ => rfl
theorem res_3_d : Statement .res_3_d := fun _ _ => rfl
theorem res_3_e : Statement .res_3_e := fun _ _ => rfl
theorem res_3_h : Statement .res_3_h := fun _ _ => rfl
theorem res_3_l : Statement .res_3_l := fun _ _ => rfl
theorem res_3_mhl : Statement .res_3_mhl := fun _ _ => rfl
theorem res_3_a : Statement .res_3_a := fun _ _ => rfl
theorem res_4_b : Statement .res_4_b := fun _ _ => rfl
theorem res_4_c : Statement .res_4_c := fun _ _ => rfl
theorem res_4_d : Statement .res_4_d := fun _ _ => rfl
theorem res_4_e : Statement .res_4_e := fun _ _ => rfl
theorem res_4_h : Statement .res_4_h := fun _ _ => rfl
theorem res_4_l : Statement .res_4_l := fun _ _ => rfl
theorem res_4_mhl : Statement .res_4_mhl := fun _ _ => rfl
theorem res_4_a : Statement .res_4_a := fun _ _ => rfl
theorem res_5_b : Statement .res_5_b := fun _ _ => rfl
theorem res_5_c : Statement .res_5_c := fun _ _ => rfl
theorem res_5_d : Statement .res_5_d := fun _ _ => rfl
theorem res_5_e : Statement .res_5_e := fun _ _ => rfl
theorem res_5_h : Statement .res_5_h := fun _ _ => rfl
theorem res_5_l : Statement .res_5_l := fun _ _ => rfl
theorem res_5_mhl : Statement .res_5_mhl := fun _ _ => rfl
theorem res_5_a : Statement .res_5_a := fun _ _ => rfl
theorem res_6_b : Statement .res_6_b := fun _ _ => rfl
theorem res_6_c : Statement .res_6_c := fun _ _ => rfl
theorem res_6_d : Statement .res_6_d := fun _ _ => rfl
theorem res_6_e : Statement .res_6_e := fun _ _ => rfl
theorem res_6_h : Statement .res_6_h := fun _ _ => rfl
theorem res_6_l : Statement .res_6_l := fun _ _ => rfl
theorem res_6_mhl : Statement .res_6_mhl := fun _ _ => rfl
theorem res_6_a : Statement .res_6_a := fun _ _ => rfl
theorem res_7_b : Statement .res_7_b := fun _ _ => rfl
theorem res_7_c : Statement .res_7_c := fun _ _ => rfl
theorem res_7_d : Statement .res_7_d := fun _ _ => rfl
theorem res_7_e : Statement .res_7_e := fun _ _ => rfl
theorem res_7_h : Statement .res_7_h := fun _ _ => rfl
theorem res_7_l : Statement .res_7_l := fun _ _ => rfl
theorem res_7_mhl : Statement .res_7_mhl := fun _ _ => rfl
theorem res_7_a : Statement .res_7_a := fun _ _ => rfl
theorem set_0_b : Statement .set_0_b := fun _ _ => rfl
theorem set_0_c : Statement .set_0_c := fun _ _ => rfl
theorem set_0_d : Statement .set_0_d := fun _ _ => rfl
theorem set_0_e : Statement .set_0_e := fun _ _ => rfl
theorem set_0_h : Statement .set_0_h := fun _ _ => rfl
theorem set_0_l : Statement .set_0_l := fun _ _ => rfl
theorem set_0_mhl : Statement .set_0_mhl := fun _ _ => rfl
theorem set_0_a : Statement .set_0_a := fun _ _ => rfl
theorem set_1_b : Statement .set_1_b := fun _ _ => rfl
theorem set_1_c : Statement .set_1_c := fun _ _ => rfl
theorem set_1_d : Statement .set_1_d := fun _ _ => rfl
theorem set_1_e : Statement .set_1_e := fun _ _ => rfl
theorem set_1_h : Statement .set_1_h := fun _ _ => rfl
theorem set_1_l : Statement .set_1_l := fun _ _ => rfl
theorem set_1_mhl : Statement .set_1_mhl := fun _ _ => rfl
theorem set_1_a : Statement .set_1_a := fun _ _ => rfl
theorem set_2_b : Statement .set_2_b := fun _ _ => rfl
theorem set_2_c : Statement .set_2_c := fun _ _ => rfl
theorem set_2_d : Statement .set_2_d := fun _ _ => rfl
theorem set_2_e : Statement .set_2_e := fun _ _ => rfl
theorem set_2_h : Statement .set_2_h := fun _ _ => rfl
theorem set_2_l : Statement .set_2_l := fun _ _ => rfl
theorem set_2_mhl : Statement .set_2_mhl := fun _ _ => rfl
theorem set_2_a : Statement .set_2_a := fun _ _ => rfl
theorem set_3_b : Statement .set_3_b := fun _ _ => rfl
theorem set_3_c : Statement .set_3_c := fun _ _ => rfl
theorem set_3_d : Statement .set_3_d := fun _ _ => rfl
theorem set_3_e : Statement .set_3_e := fun _ _ => rfl
theorem set_3_h : Statement .set_3_h := fun _ _ => rfl
theorem set_3_l : Statement .set_3_l := fun _ _ => rfl
theorem set_3_mhl : Statement .set_3_mhl := fun _ _ => rfl
theorem set_3_a : Statement .set_3_a := fun _ _ => rfl
theorem set_4_b : Statement .set_4_b := fun _ _ => rfl
theorem set_4_c : Statement .set_4_c := fun _ _ => rfl
theorem set_4_d : Statement .set_4_d := fun _ _ => rfl
theorem set_4_e : Statement .set_4_e := fun _ _ => rfl
theorem set_4_h : Statement .set_4_h := fun _ _ => rfl
theorem set_4_l : Statement .set_4_l := fun _ _ => rfl
theorem set_4_mhl : Statement .set_4_mhl := fun _ _ => rfl
theorem set_4_a : Statement .set_4_a := fun _ _ => rfl
theorem set_5_b : Statement .set_5_b := fun _ _ => rfl
theorem set_5_c : Statement .set_5_c := fun _ _ => rfl
theorem set_5_d : Statement .set_5_d := fun _ _ => rfl
theorem set_5_e : Statement .set_5_e := fun _ _ => rfl
theorem set_5_h : Statement .set_5_h := fun _ _ => rfl
theorem set_5_l : Statement .set_5_l := fun _ _ => rfl
theorem set_5_mhl : Statement .set_5_mhl := fun _ _ => rfl
theorem set_5_a : Statement .set_5_a := fun _ _ => rfl
theorem set_6_b : Statement .set_6_b := fun _ _ => rfl
theorem set_6_c : Statement .set_6_c := fun _ _ => rfl
theorem set_6_d : Statement .set_6_d := fun _ _ => rfl
theorem set_6_e : Statement .set_6_e := fun _ _ => rfl
theorem set_6_h : Statement .set_6_h := fun _ _ => rfl
theorem set_6_l : Statement .set_6_l := fun _ _ => rfl
theorem set_6_mhl : Statement .set_6_mhl := fun _ _ => rfl
theorem set_6_a : Statement .set_6_a := fun _ _ => rfl
theorem set_7_b : Statement .set_7_b := fun _ _ => rfl
theorem set_7_c : Statement .set_7_c := fun _ _ => rfl
theorem set_7_d : Statement .set_7_d := fun _ _ => rfl
theorem set_7_e : Statement .set_7_e := fun _ _ => rfl
theorem set_7_h : Statement .set_7_h := fun _ _ => rfl
theorem set_7_l : Statement .set_7_l := fun _ _ => rfl
theorem set_7_mhl : Statement .set_7_mhl := fun _ _ => rfl
theorem set_7_a : Statement .set_7_a := fun _ _ => rfl

end Sys2Proof.Laws.RoundTrip
end

