-- ==== Sys2Proof/Tests/Slice0.lean ====
section
/-! SUPPORT. Tests: every constructor's word, written out from the encodings of spec/opcode_table.json; one-step tests whose
expected values are the vectors of spec/95_test_vectors.md (the name gives the vector); and a witness for the hypotheses
of each statement that has some. -/

namespace Sys2Proof.Machine

set_option Elab.async false

/-! ### Well-formedness -/

/-- The one check of WellFormed refuses the bare prefix, whatever its operand byte (R143, R365). -/
theorem test_wellformed_refuses_prefix : (Instr.prefix_cb 0x37).wellFormed = false := by decide

theorem test_wellformed_accepts_entry : Instr.swap_a.wellFormed = true := by decide

/-- The decoder answers the prefixed table's entry, never the bare prefix. -/
theorem test_prefix_decodes_to_entry : decode [0xCB, 0x37] = .ok (.swap_a, []) := by decide

theorem test_truncated_refused : decode [0xCD, 0x00] = .error (.truncated 0xCD) := by decide

theorem test_empty_refused : (decode []).isOk = false := by decide

/-! ### Decoding: every row of the opcode table -/

theorem test_decode_base_0 :
    [decode [0b00000000], decode [0b00000001, 0x34, 0x12], decode [0b00000010], decode [0b00000011],
     decode [0b00000100], decode [0b00000101], decode [0b00000110, 0x34], decode [0b00000111],
     decode [0b00001000, 0x34, 0x12], decode [0b00001001], decode [0b00001010], decode [0b00001011],
     decode [0b00001100], decode [0b00001101], decode [0b00001110, 0x34], decode [0b00001111]] =
    [.ok (.nop, []), .ok (.ld_bc_n16 0x1234, []), .ok (.ld_mbc_a, []), .ok (.inc_bc, []),
     .ok (.inc_b, []), .ok (.dec_b, []), .ok (.ld_b_n8 0x34, []), .ok (.rlca, []),
     .ok (.ld_ma16_sp 0x1234, []), .ok (.add_hl_bc, []), .ok (.ld_a_mbc, []), .ok (.dec_bc, []),
     .ok (.inc_c, []), .ok (.dec_c, []), .ok (.ld_c_n8 0x34, []), .ok (.rrca, [])] := by decide

theorem test_decode_base_1 :
    [decode [0b00010000, 0x34], decode [0b00010001, 0x34, 0x12], decode [0b00010010], decode [0b00010011],
     decode [0b00010100], decode [0b00010101], decode [0b00010110, 0x34], decode [0b00010111],
     decode [0b00011000, 0x34], decode [0b00011001], decode [0b00011010], decode [0b00011011],
     decode [0b00011100], decode [0b00011101], decode [0b00011110, 0x34], decode [0b00011111]] =
    [.ok (.stop_n8 0x34, []), .ok (.ld_de_n16 0x1234, []), .ok (.ld_mde_a, []), .ok (.inc_de, []),
     .ok (.inc_d, []), .ok (.dec_d, []), .ok (.ld_d_n8 0x34, []), .ok (.rla, []),
     .ok (.jr_e8 0x34, []), .ok (.add_hl_de, []), .ok (.ld_a_mde, []), .ok (.dec_de, []),
     .ok (.inc_e, []), .ok (.dec_e, []), .ok (.ld_e_n8 0x34, []), .ok (.rra, [])] := by decide

theorem test_decode_base_2 :
    [decode [0b00100000, 0x34], decode [0b00100001, 0x34, 0x12], decode [0b00100010], decode [0b00100011],
     decode [0b00100100], decode [0b00100101], decode [0b00100110, 0x34], decode [0b00100111],
     decode [0b00101000, 0x34], decode [0b00101001], decode [0b00101010], decode [0b00101011],
     decode [0b00101100], decode [0b00101101], decode [0b00101110, 0x34], decode [0b00101111]] =
    [.ok (.jr_nz_e8 0x34, []), .ok (.ld_hl_n16 0x1234, []), .ok (.ld_mhli_a, []), .ok (.inc_hl, []),
     .ok (.inc_h, []), .ok (.dec_h, []), .ok (.ld_h_n8 0x34, []), .ok (.daa, []),
     .ok (.jr_z_e8 0x34, []), .ok (.add_hl_hl, []), .ok (.ld_a_mhli, []), .ok (.dec_hl, []),
     .ok (.inc_l, []), .ok (.dec_l, []), .ok (.ld_l_n8 0x34, []), .ok (.cpl, [])] := by decide

theorem test_decode_base_3 :
    [decode [0b00110000, 0x34], decode [0b00110001, 0x34, 0x12], decode [0b00110010], decode [0b00110011],
     decode [0b00110100], decode [0b00110101], decode [0b00110110, 0x34], decode [0b00110111],
     decode [0b00111000, 0x34], decode [0b00111001], decode [0b00111010], decode [0b00111011],
     decode [0b00111100], decode [0b00111101], decode [0b00111110, 0x34], decode [0b00111111]] =
    [.ok (.jr_nc_e8 0x34, []), .ok (.ld_sp_n16 0x1234, []), .ok (.ld_mhld_a, []), .ok (.inc_sp, []),
     .ok (.inc_mhl, []), .ok (.dec_mhl, []), .ok (.ld_mhl_n8 0x34, []), .ok (.scf, []),
     .ok (.jr_c_e8 0x34, []), .ok (.add_hl_sp, []), .ok (.ld_a_mhld, []), .ok (.dec_sp, []),
     .ok (.inc_a, []), .ok (.dec_a, []), .ok (.ld_a_n8 0x34, []), .ok (.ccf, [])] := by decide

theorem test_decode_base_4 :
    [decode [0b01000000], decode [0b01000001], decode [0b01000010], decode [0b01000011],
     decode [0b01000100], decode [0b01000101], decode [0b01000110], decode [0b01000111],
     decode [0b01001000], decode [0b01001001], decode [0b01001010], decode [0b01001011],
     decode [0b01001100], decode [0b01001101], decode [0b01001110], decode [0b01001111]] =
    [.ok (.ld_b_b, []), .ok (.ld_b_c, []), .ok (.ld_b_d, []), .ok (.ld_b_e, []),
     .ok (.ld_b_h, []), .ok (.ld_b_l, []), .ok (.ld_b_mhl, []), .ok (.ld_b_a, []),
     .ok (.ld_c_b, []), .ok (.ld_c_c, []), .ok (.ld_c_d, []), .ok (.ld_c_e, []),
     .ok (.ld_c_h, []), .ok (.ld_c_l, []), .ok (.ld_c_mhl, []), .ok (.ld_c_a, [])] := by decide

theorem test_decode_base_5 :
    [decode [0b01010000], decode [0b01010001], decode [0b01010010], decode [0b01010011],
     decode [0b01010100], decode [0b01010101], decode [0b01010110], decode [0b01010111],
     decode [0b01011000], decode [0b01011001], decode [0b01011010], decode [0b01011011],
     decode [0b01011100], decode [0b01011101], decode [0b01011110], decode [0b01011111]] =
    [.ok (.ld_d_b, []), .ok (.ld_d_c, []), .ok (.ld_d_d, []), .ok (.ld_d_e, []),
     .ok (.ld_d_h, []), .ok (.ld_d_l, []), .ok (.ld_d_mhl, []), .ok (.ld_d_a, []),
     .ok (.ld_e_b, []), .ok (.ld_e_c, []), .ok (.ld_e_d, []), .ok (.ld_e_e, []),
     .ok (.ld_e_h, []), .ok (.ld_e_l, []), .ok (.ld_e_mhl, []), .ok (.ld_e_a, [])] := by decide

theorem test_decode_base_6 :
    [decode [0b01100000], decode [0b01100001], decode [0b01100010], decode [0b01100011],
     decode [0b01100100], decode [0b01100101], decode [0b01100110], decode [0b01100111],
     decode [0b01101000], decode [0b01101001], decode [0b01101010], decode [0b01101011],
     decode [0b01101100], decode [0b01101101], decode [0b01101110], decode [0b01101111]] =
    [.ok (.ld_h_b, []), .ok (.ld_h_c, []), .ok (.ld_h_d, []), .ok (.ld_h_e, []),
     .ok (.ld_h_h, []), .ok (.ld_h_l, []), .ok (.ld_h_mhl, []), .ok (.ld_h_a, []),
     .ok (.ld_l_b, []), .ok (.ld_l_c, []), .ok (.ld_l_d, []), .ok (.ld_l_e, []),
     .ok (.ld_l_h, []), .ok (.ld_l_l, []), .ok (.ld_l_mhl, []), .ok (.ld_l_a, [])] := by decide

theorem test_decode_base_7 :
    [decode [0b01110000], decode [0b01110001], decode [0b01110010], decode [0b01110011],
     decode [0b01110100], decode [0b01110101], decode [0b01110110], decode [0b01110111],
     decode [0b01111000], decode [0b01111001], decode [0b01111010], decode [0b01111011],
     decode [0b01111100], decode [0b01111101], decode [0b01111110], decode [0b01111111]] =
    [.ok (.ld_mhl_b, []), .ok (.ld_mhl_c, []), .ok (.ld_mhl_d, []), .ok (.ld_mhl_e, []),
     .ok (.ld_mhl_h, []), .ok (.ld_mhl_l, []), .ok (.halt, []), .ok (.ld_mhl_a, []),
     .ok (.ld_a_b, []), .ok (.ld_a_c, []), .ok (.ld_a_d, []), .ok (.ld_a_e, []),
     .ok (.ld_a_h, []), .ok (.ld_a_l, []), .ok (.ld_a_mhl, []), .ok (.ld_a_a, [])] := by decide

theorem test_decode_base_8 :
    [decode [0b10000000], decode [0b10000001], decode [0b10000010], decode [0b10000011],
     decode [0b10000100], decode [0b10000101], decode [0b10000110], decode [0b10000111],
     decode [0b10001000], decode [0b10001001], decode [0b10001010], decode [0b10001011],
     decode [0b10001100], decode [0b10001101], decode [0b10001110], decode [0b10001111]] =
    [.ok (.add_a_b, []), .ok (.add_a_c, []), .ok (.add_a_d, []), .ok (.add_a_e, []),
     .ok (.add_a_h, []), .ok (.add_a_l, []), .ok (.add_a_mhl, []), .ok (.add_a_a, []),
     .ok (.adc_a_b, []), .ok (.adc_a_c, []), .ok (.adc_a_d, []), .ok (.adc_a_e, []),
     .ok (.adc_a_h, []), .ok (.adc_a_l, []), .ok (.adc_a_mhl, []), .ok (.adc_a_a, [])] := by decide

theorem test_decode_base_9 :
    [decode [0b10010000], decode [0b10010001], decode [0b10010010], decode [0b10010011],
     decode [0b10010100], decode [0b10010101], decode [0b10010110], decode [0b10010111],
     decode [0b10011000], decode [0b10011001], decode [0b10011010], decode [0b10011011],
     decode [0b10011100], decode [0b10011101], decode [0b10011110], decode [0b10011111]] =
    [.ok (.sub_b, []), .ok (.sub_c, []), .ok (.sub_d, []), .ok (.sub_e, []),
     .ok (.sub_h, []), .ok (.sub_l, []), .ok (.sub_mhl, []), .ok (.sub_a, []),
     .ok (.sbc_a_b, []), .ok (.sbc_a_c, []), .ok (.sbc_a_d, []), .ok (.sbc_a_e, []),
     .ok (.sbc_a_h, []), .ok (.sbc_a_l, []), .ok (.sbc_a_mhl, []), .ok (.sbc_a_a, [])] := by decide

theorem test_decode_base_a :
    [decode [0b10100000], decode [0b10100001], decode [0b10100010], decode [0b10100011],
     decode [0b10100100], decode [0b10100101], decode [0b10100110], decode [0b10100111],
     decode [0b10101000], decode [0b10101001], decode [0b10101010], decode [0b10101011],
     decode [0b10101100], decode [0b10101101], decode [0b10101110], decode [0b10101111]] =
    [.ok (.and_b, []), .ok (.and_c, []), .ok (.and_d, []), .ok (.and_e, []),
     .ok (.and_h, []), .ok (.and_l, []), .ok (.and_mhl, []), .ok (.and_a, []),
     .ok (.xor_b, []), .ok (.xor_c, []), .ok (.xor_d, []), .ok (.xor_e, []),
     .ok (.xor_h, []), .ok (.xor_l, []), .ok (.xor_mhl, []), .ok (.xor_a, [])] := by decide

theorem test_decode_base_b :
    [decode [0b10110000], decode [0b10110001], decode [0b10110010], decode [0b10110011],
     decode [0b10110100], decode [0b10110101], decode [0b10110110], decode [0b10110111],
     decode [0b10111000], decode [0b10111001], decode [0b10111010], decode [0b10111011],
     decode [0b10111100], decode [0b10111101], decode [0b10111110], decode [0b10111111]] =
    [.ok (.or_b, []), .ok (.or_c, []), .ok (.or_d, []), .ok (.or_e, []),
     .ok (.or_h, []), .ok (.or_l, []), .ok (.or_mhl, []), .ok (.or_a, []),
     .ok (.cp_b, []), .ok (.cp_c, []), .ok (.cp_d, []), .ok (.cp_e, []),
     .ok (.cp_h, []), .ok (.cp_l, []), .ok (.cp_mhl, []), .ok (.cp_a, [])] := by decide

theorem test_decode_base_c :
    [decode [0b11000000], decode [0b11000001], decode [0b11000010, 0x34, 0x12], decode [0b11000011, 0x34, 0x12],
     decode [0b11000100, 0x34, 0x12], decode [0b11000101], decode [0b11000110, 0x34], decode [0b11000111],
     decode [0b11001000], decode [0b11001001], decode [0b11001010, 0x34, 0x12], decode [0b11001011, 0x00],
     decode [0b11001100, 0x34, 0x12], decode [0b11001101, 0x34, 0x12], decode [0b11001110, 0x34], decode [0b11001111]] =
    [.ok (.ret_nz, []), .ok (.pop_bc, []), .ok (.jp_nz_a16 0x1234, []), .ok (.jp_a16 0x1234, []),
     .ok (.call_nz_a16 0x1234, []), .ok (.push_bc, []), .ok (.add_a_n8 0x34, []), .ok (.rst_00h, []),
     .ok (.ret_z, []), .ok (.ret, []), .ok (.jp_z_a16 0x1234, []), .ok (.rlc_b, []),
     .ok (.call_z_a16 0x1234, []), .ok (.call_a16 0x1234, []), .ok (.adc_a_n8 0x34, []), .ok (.rst_08h, [])] := by decide

theorem test_decode_base_d :
    [decode [0b11010000], decode [0b11010001], decode [0b11010010, 0x34, 0x12], decode [0b11010011],
     decode [0b11010100, 0x34, 0x12], decode [0b11010101], decode [0b11010110, 0x34], decode [0b11010111],
     decode [0b11011000], decode [0b11011001], decode [0b11011010, 0x34, 0x12], decode [0b11011011],
     decode [0b11011100, 0x34, 0x12], decode [0b11011101], decode [0b11011110, 0x34], decode [0b11011111]] =
    [.ok (.ret_nc, []), .ok (.pop_de, []), .ok (.jp_nc_a16 0x1234, []), .ok (.illegal_d3, []),
     .ok (.call_nc_a16 0x1234, []), .ok (.push_de, []), .ok (.sub_n8 0x34, []), .ok (.rst_10h, []),
     .ok (.ret_c, []), .ok (.reti, []), .ok (.jp_c_a16 0x1234, []), .ok (.illegal_db, []),
     .ok (.call_c_a16 0x1234, []), .ok (.illegal_dd, []), .ok (.sbc_a_n8 0x34, []), .ok (.rst_18h, [])] := by decide

theorem test_decode_base_e :
    [decode [0b11100000, 0x34], decode [0b11100001], decode [0b11100010], decode [0b11100011],
     decode [0b11100100], decode [0b11100101], decode [0b11100110, 0x34], decode [0b11100111],
     decode [0b11101000, 0x34], decode [0b11101001], decode [0b11101010, 0x34, 0x12], decode [0b11101011],
     decode [0b11101100], decode [0b11101101], decode [0b11101110, 0x34], decode [0b11101111]] =
    [.ok (.ldh_ma8_a 0x34, []), .ok (.pop_hl, []), .ok (.ld_mc_a, []), .ok (.illegal_e3, []),
     .ok (.illegal_e4, []), .ok (.push_hl, []), .ok (.and_n8 0x34, []), .ok (.rst_20h, []),
     .ok (.add_sp_e8 0x34, []), .ok (.jp_hl, []), .ok (.ld_ma16_a 0x1234, []), .ok (.illegal_eb, []),
     .ok (.illegal_ec, []), .ok (.illegal_ed, []), .ok (.xor_n8 0x34, []), .ok (.rst_28h, [])] := by decide

theorem test_decode_base_f :
    [decode [0b11110000, 0x34], decode [0b11110001], decode [0b11110010], decode [0b11110011],
     decode [0b11110100], decode [0b11110101], decode [0b11110110, 0x34], decode [0b11110111],
     decode [0b11111000, 0x34], decode [0b11111001], decode [0b11111010, 0x34, 0x12], decode [0b11111011],
     decode [0b11111100], decode [0b11111101], decode [0b11111110, 0x34], decode [0b11111111]] =
    [.ok (.ldh_a_ma8 0x34, []), .ok (.pop_af, []), .ok (.ld_a_mc, []), .ok (.di, []),
     .ok (.illegal_f4, []), .ok (.push_af, []), .ok (.or_n8 0x34, []), .ok (.rst_30h, []),
     .ok (.ld_hl_spe8 0x34, []), .ok (.ld_sp_hl, []), .ok (.ld_a_ma16 0x1234, []), .ok (.ei, []),
     .ok (.illegal_fc, []), .ok (.illegal_fd, []), .ok (.cp_n8 0x34, []), .ok (.rst_38h, [])] := by decide

theorem test_decode_cb_0 :
    [decode [0xCB, 0b00000000], decode [0xCB, 0b00000001], decode [0xCB, 0b00000010], decode [0xCB, 0b00000011],
     decode [0xCB, 0b00000100], decode [0xCB, 0b00000101], decode [0xCB, 0b00000110], decode [0xCB, 0b00000111],
     decode [0xCB, 0b00001000], decode [0xCB, 0b00001001], decode [0xCB, 0b00001010], decode [0xCB, 0b00001011],
     decode [0xCB, 0b00001100], decode [0xCB, 0b00001101], decode [0xCB, 0b00001110], decode [0xCB, 0b00001111]] =
    [.ok (.rlc_b, []), .ok (.rlc_c, []), .ok (.rlc_d, []), .ok (.rlc_e, []),
     .ok (.rlc_h, []), .ok (.rlc_l, []), .ok (.rlc_mhl, []), .ok (.rlc_a, []),
     .ok (.rrc_b, []), .ok (.rrc_c, []), .ok (.rrc_d, []), .ok (.rrc_e, []),
     .ok (.rrc_h, []), .ok (.rrc_l, []), .ok (.rrc_mhl, []), .ok (.rrc_a, [])] := by decide

theorem test_decode_cb_1 :
    [decode [0xCB, 0b00010000], decode [0xCB, 0b00010001], decode [0xCB, 0b00010010], decode [0xCB, 0b00010011],
     decode [0xCB, 0b00010100], decode [0xCB, 0b00010101], decode [0xCB, 0b00010110], decode [0xCB, 0b00010111],
     decode [0xCB, 0b00011000], decode [0xCB, 0b00011001], decode [0xCB, 0b00011010], decode [0xCB, 0b00011011],
     decode [0xCB, 0b00011100], decode [0xCB, 0b00011101], decode [0xCB, 0b00011110], decode [0xCB, 0b00011111]] =
    [.ok (.rl_b, []), .ok (.rl_c, []), .ok (.rl_d, []), .ok (.rl_e, []),
     .ok (.rl_h, []), .ok (.rl_l, []), .ok (.rl_mhl, []), .ok (.rl_a, []),
     .ok (.rr_b, []), .ok (.rr_c, []), .ok (.rr_d, []), .ok (.rr_e, []),
     .ok (.rr_h, []), .ok (.rr_l, []), .ok (.rr_mhl, []), .ok (.rr_a, [])] := by decide

theorem test_decode_cb_2 :
    [decode [0xCB, 0b00100000], decode [0xCB, 0b00100001], decode [0xCB, 0b00100010], decode [0xCB, 0b00100011],
     decode [0xCB, 0b00100100], decode [0xCB, 0b00100101], decode [0xCB, 0b00100110], decode [0xCB, 0b00100111],
     decode [0xCB, 0b00101000], decode [0xCB, 0b00101001], decode [0xCB, 0b00101010], decode [0xCB, 0b00101011],
     decode [0xCB, 0b00101100], decode [0xCB, 0b00101101], decode [0xCB, 0b00101110], decode [0xCB, 0b00101111]] =
    [.ok (.sla_b, []), .ok (.sla_c, []), .ok (.sla_d, []), .ok (.sla_e, []),
     .ok (.sla_h, []), .ok (.sla_l, []), .ok (.sla_mhl, []), .ok (.sla_a, []),
     .ok (.sra_b, []), .ok (.sra_c, []), .ok (.sra_d, []), .ok (.sra_e, []),
     .ok (.sra_h, []), .ok (.sra_l, []), .ok (.sra_mhl, []), .ok (.sra_a, [])] := by decide

theorem test_decode_cb_3 :
    [decode [0xCB, 0b00110000], decode [0xCB, 0b00110001], decode [0xCB, 0b00110010], decode [0xCB, 0b00110011],
     decode [0xCB, 0b00110100], decode [0xCB, 0b00110101], decode [0xCB, 0b00110110], decode [0xCB, 0b00110111],
     decode [0xCB, 0b00111000], decode [0xCB, 0b00111001], decode [0xCB, 0b00111010], decode [0xCB, 0b00111011],
     decode [0xCB, 0b00111100], decode [0xCB, 0b00111101], decode [0xCB, 0b00111110], decode [0xCB, 0b00111111]] =
    [.ok (.swap_b, []), .ok (.swap_c, []), .ok (.swap_d, []), .ok (.swap_e, []),
     .ok (.swap_h, []), .ok (.swap_l, []), .ok (.swap_mhl, []), .ok (.swap_a, []),
     .ok (.srl_b, []), .ok (.srl_c, []), .ok (.srl_d, []), .ok (.srl_e, []),
     .ok (.srl_h, []), .ok (.srl_l, []), .ok (.srl_mhl, []), .ok (.srl_a, [])] := by decide

theorem test_decode_cb_4 :
    [decode [0xCB, 0b01000000], decode [0xCB, 0b01000001], decode [0xCB, 0b01000010], decode [0xCB, 0b01000011],
     decode [0xCB, 0b01000100], decode [0xCB, 0b01000101], decode [0xCB, 0b01000110], decode [0xCB, 0b01000111],
     decode [0xCB, 0b01001000], decode [0xCB, 0b01001001], decode [0xCB, 0b01001010], decode [0xCB, 0b01001011],
     decode [0xCB, 0b01001100], decode [0xCB, 0b01001101], decode [0xCB, 0b01001110], decode [0xCB, 0b01001111]] =
    [.ok (.bit_0_b, []), .ok (.bit_0_c, []), .ok (.bit_0_d, []), .ok (.bit_0_e, []),
     .ok (.bit_0_h, []), .ok (.bit_0_l, []), .ok (.bit_0_mhl, []), .ok (.bit_0_a, []),
     .ok (.bit_1_b, []), .ok (.bit_1_c, []), .ok (.bit_1_d, []), .ok (.bit_1_e, []),
     .ok (.bit_1_h, []), .ok (.bit_1_l, []), .ok (.bit_1_mhl, []), .ok (.bit_1_a, [])] := by decide

theorem test_decode_cb_5 :
    [decode [0xCB, 0b01010000], decode [0xCB, 0b01010001], decode [0xCB, 0b01010010], decode [0xCB, 0b01010011],
     decode [0xCB, 0b01010100], decode [0xCB, 0b01010101], decode [0xCB, 0b01010110], decode [0xCB, 0b01010111],
     decode [0xCB, 0b01011000], decode [0xCB, 0b01011001], decode [0xCB, 0b01011010], decode [0xCB, 0b01011011],
     decode [0xCB, 0b01011100], decode [0xCB, 0b01011101], decode [0xCB, 0b01011110], decode [0xCB, 0b01011111]] =
    [.ok (.bit_2_b, []), .ok (.bit_2_c, []), .ok (.bit_2_d, []), .ok (.bit_2_e, []),
     .ok (.bit_2_h, []), .ok (.bit_2_l, []), .ok (.bit_2_mhl, []), .ok (.bit_2_a, []),
     .ok (.bit_3_b, []), .ok (.bit_3_c, []), .ok (.bit_3_d, []), .ok (.bit_3_e, []),
     .ok (.bit_3_h, []), .ok (.bit_3_l, []), .ok (.bit_3_mhl, []), .ok (.bit_3_a, [])] := by decide

theorem test_decode_cb_6 :
    [decode [0xCB, 0b01100000], decode [0xCB, 0b01100001], decode [0xCB, 0b01100010], decode [0xCB, 0b01100011],
     decode [0xCB, 0b01100100], decode [0xCB, 0b01100101], decode [0xCB, 0b01100110], decode [0xCB, 0b01100111],
     decode [0xCB, 0b01101000], decode [0xCB, 0b01101001], decode [0xCB, 0b01101010], decode [0xCB, 0b01101011],
     decode [0xCB, 0b01101100], decode [0xCB, 0b01101101], decode [0xCB, 0b01101110], decode [0xCB, 0b01101111]] =
    [.ok (.bit_4_b, []), .ok (.bit_4_c, []), .ok (.bit_4_d, []), .ok (.bit_4_e, []),
     .ok (.bit_4_h, []), .ok (.bit_4_l, []), .ok (.bit_4_mhl, []), .ok (.bit_4_a, []),
     .ok (.bit_5_b, []), .ok (.bit_5_c, []), .ok (.bit_5_d, []), .ok (.bit_5_e, []),
     .ok (.bit_5_h, []), .ok (.bit_5_l, []), .ok (.bit_5_mhl, []), .ok (.bit_5_a, [])] := by decide

theorem test_decode_cb_7 :
    [decode [0xCB, 0b01110000], decode [0xCB, 0b01110001], decode [0xCB, 0b01110010], decode [0xCB, 0b01110011],
     decode [0xCB, 0b01110100], decode [0xCB, 0b01110101], decode [0xCB, 0b01110110], decode [0xCB, 0b01110111],
     decode [0xCB, 0b01111000], decode [0xCB, 0b01111001], decode [0xCB, 0b01111010], decode [0xCB, 0b01111011],
     decode [0xCB, 0b01111100], decode [0xCB, 0b01111101], decode [0xCB, 0b01111110], decode [0xCB, 0b01111111]] =
    [.ok (.bit_6_b, []), .ok (.bit_6_c, []), .ok (.bit_6_d, []), .ok (.bit_6_e, []),
     .ok (.bit_6_h, []), .ok (.bit_6_l, []), .ok (.bit_6_mhl, []), .ok (.bit_6_a, []),
     .ok (.bit_7_b, []), .ok (.bit_7_c, []), .ok (.bit_7_d, []), .ok (.bit_7_e, []),
     .ok (.bit_7_h, []), .ok (.bit_7_l, []), .ok (.bit_7_mhl, []), .ok (.bit_7_a, [])] := by decide

theorem test_decode_cb_8 :
    [decode [0xCB, 0b10000000], decode [0xCB, 0b10000001], decode [0xCB, 0b10000010], decode [0xCB, 0b10000011],
     decode [0xCB, 0b10000100], decode [0xCB, 0b10000101], decode [0xCB, 0b10000110], decode [0xCB, 0b10000111],
     decode [0xCB, 0b10001000], decode [0xCB, 0b10001001], decode [0xCB, 0b10001010], decode [0xCB, 0b10001011],
     decode [0xCB, 0b10001100], decode [0xCB, 0b10001101], decode [0xCB, 0b10001110], decode [0xCB, 0b10001111]] =
    [.ok (.res_0_b, []), .ok (.res_0_c, []), .ok (.res_0_d, []), .ok (.res_0_e, []),
     .ok (.res_0_h, []), .ok (.res_0_l, []), .ok (.res_0_mhl, []), .ok (.res_0_a, []),
     .ok (.res_1_b, []), .ok (.res_1_c, []), .ok (.res_1_d, []), .ok (.res_1_e, []),
     .ok (.res_1_h, []), .ok (.res_1_l, []), .ok (.res_1_mhl, []), .ok (.res_1_a, [])] := by decide

theorem test_decode_cb_9 :
    [decode [0xCB, 0b10010000], decode [0xCB, 0b10010001], decode [0xCB, 0b10010010], decode [0xCB, 0b10010011],
     decode [0xCB, 0b10010100], decode [0xCB, 0b10010101], decode [0xCB, 0b10010110], decode [0xCB, 0b10010111],
     decode [0xCB, 0b10011000], decode [0xCB, 0b10011001], decode [0xCB, 0b10011010], decode [0xCB, 0b10011011],
     decode [0xCB, 0b10011100], decode [0xCB, 0b10011101], decode [0xCB, 0b10011110], decode [0xCB, 0b10011111]] =
    [.ok (.res_2_b, []), .ok (.res_2_c, []), .ok (.res_2_d, []), .ok (.res_2_e, []),
     .ok (.res_2_h, []), .ok (.res_2_l, []), .ok (.res_2_mhl, []), .ok (.res_2_a, []),
     .ok (.res_3_b, []), .ok (.res_3_c, []), .ok (.res_3_d, []), .ok (.res_3_e, []),
     .ok (.res_3_h, []), .ok (.res_3_l, []), .ok (.res_3_mhl, []), .ok (.res_3_a, [])] := by decide

theorem test_decode_cb_a :
    [decode [0xCB, 0b10100000], decode [0xCB, 0b10100001], decode [0xCB, 0b10100010], decode [0xCB, 0b10100011],
     decode [0xCB, 0b10100100], decode [0xCB, 0b10100101], decode [0xCB, 0b10100110], decode [0xCB, 0b10100111],
     decode [0xCB, 0b10101000], decode [0xCB, 0b10101001], decode [0xCB, 0b10101010], decode [0xCB, 0b10101011],
     decode [0xCB, 0b10101100], decode [0xCB, 0b10101101], decode [0xCB, 0b10101110], decode [0xCB, 0b10101111]] =
    [.ok (.res_4_b, []), .ok (.res_4_c, []), .ok (.res_4_d, []), .ok (.res_4_e, []),
     .ok (.res_4_h, []), .ok (.res_4_l, []), .ok (.res_4_mhl, []), .ok (.res_4_a, []),
     .ok (.res_5_b, []), .ok (.res_5_c, []), .ok (.res_5_d, []), .ok (.res_5_e, []),
     .ok (.res_5_h, []), .ok (.res_5_l, []), .ok (.res_5_mhl, []), .ok (.res_5_a, [])] := by decide

theorem test_decode_cb_b :
    [decode [0xCB, 0b10110000], decode [0xCB, 0b10110001], decode [0xCB, 0b10110010], decode [0xCB, 0b10110011],
     decode [0xCB, 0b10110100], decode [0xCB, 0b10110101], decode [0xCB, 0b10110110], decode [0xCB, 0b10110111],
     decode [0xCB, 0b10111000], decode [0xCB, 0b10111001], decode [0xCB, 0b10111010], decode [0xCB, 0b10111011],
     decode [0xCB, 0b10111100], decode [0xCB, 0b10111101], decode [0xCB, 0b10111110], decode [0xCB, 0b10111111]] =
    [.ok (.res_6_b, []), .ok (.res_6_c, []), .ok (.res_6_d, []), .ok (.res_6_e, []),
     .ok (.res_6_h, []), .ok (.res_6_l, []), .ok (.res_6_mhl, []), .ok (.res_6_a, []),
     .ok (.res_7_b, []), .ok (.res_7_c, []), .ok (.res_7_d, []), .ok (.res_7_e, []),
     .ok (.res_7_h, []), .ok (.res_7_l, []), .ok (.res_7_mhl, []), .ok (.res_7_a, [])] := by decide

theorem test_decode_cb_c :
    [decode [0xCB, 0b11000000], decode [0xCB, 0b11000001], decode [0xCB, 0b11000010], decode [0xCB, 0b11000011],
     decode [0xCB, 0b11000100], decode [0xCB, 0b11000101], decode [0xCB, 0b11000110], decode [0xCB, 0b11000111],
     decode [0xCB, 0b11001000], decode [0xCB, 0b11001001], decode [0xCB, 0b11001010], decode [0xCB, 0b11001011],
     decode [0xCB, 0b11001100], decode [0xCB, 0b11001101], decode [0xCB, 0b11001110], decode [0xCB, 0b11001111]] =
    [.ok (.set_0_b, []), .ok (.set_0_c, []), .ok (.set_0_d, []), .ok (.set_0_e, []),
     .ok (.set_0_h, []), .ok (.set_0_l, []), .ok (.set_0_mhl, []), .ok (.set_0_a, []),
     .ok (.set_1_b, []), .ok (.set_1_c, []), .ok (.set_1_d, []), .ok (.set_1_e, []),
     .ok (.set_1_h, []), .ok (.set_1_l, []), .ok (.set_1_mhl, []), .ok (.set_1_a, [])] := by decide

theorem test_decode_cb_d :
    [decode [0xCB, 0b11010000], decode [0xCB, 0b11010001], decode [0xCB, 0b11010010], decode [0xCB, 0b11010011],
     decode [0xCB, 0b11010100], decode [0xCB, 0b11010101], decode [0xCB, 0b11010110], decode [0xCB, 0b11010111],
     decode [0xCB, 0b11011000], decode [0xCB, 0b11011001], decode [0xCB, 0b11011010], decode [0xCB, 0b11011011],
     decode [0xCB, 0b11011100], decode [0xCB, 0b11011101], decode [0xCB, 0b11011110], decode [0xCB, 0b11011111]] =
    [.ok (.set_2_b, []), .ok (.set_2_c, []), .ok (.set_2_d, []), .ok (.set_2_e, []),
     .ok (.set_2_h, []), .ok (.set_2_l, []), .ok (.set_2_mhl, []), .ok (.set_2_a, []),
     .ok (.set_3_b, []), .ok (.set_3_c, []), .ok (.set_3_d, []), .ok (.set_3_e, []),
     .ok (.set_3_h, []), .ok (.set_3_l, []), .ok (.set_3_mhl, []), .ok (.set_3_a, [])] := by decide

theorem test_decode_cb_e :
    [decode [0xCB, 0b11100000], decode [0xCB, 0b11100001], decode [0xCB, 0b11100010], decode [0xCB, 0b11100011],
     decode [0xCB, 0b11100100], decode [0xCB, 0b11100101], decode [0xCB, 0b11100110], decode [0xCB, 0b11100111],
     decode [0xCB, 0b11101000], decode [0xCB, 0b11101001], decode [0xCB, 0b11101010], decode [0xCB, 0b11101011],
     decode [0xCB, 0b11101100], decode [0xCB, 0b11101101], decode [0xCB, 0b11101110], decode [0xCB, 0b11101111]] =
    [.ok (.set_4_b, []), .ok (.set_4_c, []), .ok (.set_4_d, []), .ok (.set_4_e, []),
     .ok (.set_4_h, []), .ok (.set_4_l, []), .ok (.set_4_mhl, []), .ok (.set_4_a, []),
     .ok (.set_5_b, []), .ok (.set_5_c, []), .ok (.set_5_d, []), .ok (.set_5_e, []),
     .ok (.set_5_h, []), .ok (.set_5_l, []), .ok (.set_5_mhl, []), .ok (.set_5_a, [])] := by decide

theorem test_decode_cb_f :
    [decode [0xCB, 0b11110000], decode [0xCB, 0b11110001], decode [0xCB, 0b11110010], decode [0xCB, 0b11110011],
     decode [0xCB, 0b11110100], decode [0xCB, 0b11110101], decode [0xCB, 0b11110110], decode [0xCB, 0b11110111],
     decode [0xCB, 0b11111000], decode [0xCB, 0b11111001], decode [0xCB, 0b11111010], decode [0xCB, 0b11111011],
     decode [0xCB, 0b11111100], decode [0xCB, 0b11111101], decode [0xCB, 0b11111110], decode [0xCB, 0b11111111]] =
    [.ok (.set_6_b, []), .ok (.set_6_c, []), .ok (.set_6_d, []), .ok (.set_6_e, []),
     .ok (.set_6_h, []), .ok (.set_6_l, []), .ok (.set_6_mhl, []), .ok (.set_6_a, []),
     .ok (.set_7_b, []), .ok (.set_7_c, []), .ok (.set_7_d, []), .ok (.set_7_e, []),
     .ok (.set_7_h, []), .ok (.set_7_l, []), .ok (.set_7_mhl, []), .ok (.set_7_a, [])] := by decide

/-- Table words: the first byte is the low byte of a base row's word, and a prefixed row's word is the number 0xCBxx
(log entry 16). -/
theorem test_table_word_base : decodeTableWord 24 0x1234C3 = some (.jp_a16 0x1234) := by decide

theorem test_table_word_cb : decodeTableWord 16 0xCB7C = some .bit_7_h := by decide

/-! ### One-step tests -/

/-- The 32 KiB ROM-only image of zero bytes after Reset (95_test_vectors.md, Conventions). -/
def zeroCart : State := { State.reset with cart := some ⟨.romOnly, 32768, [], 0, 0⟩ }

/-- Bytes written with the bus from an address on. -/
def pokes : State → Word → List Byte → State
  | s, _, [] => s
  | s, a, v :: rest => pokes (s.busWrite a v) (a + 1) rest

/-- Code at an address, and the PC on it. -/
def codeAt (pc : Word) (code : List Byte) : State :=
  let s := pokes zeroCart pc code
  { s with regs := { s.regs with pc := pc } }

/-- Whether one step of a state ends with the given registers, cost and read-back bytes. -/
def stepGives (s : State) (fin : Regs → Regs) (cost : Nat) (reads : List (Word × Byte)) : Bool :=
  match step s with
  | .next t => t.regs == fin s.regs && t.cycles == s.cycles + cost && reads.all fun r => t.busRead r.1 == r.2
  | _ => false

/-- Whether one step of a state ends in a next state with a property. -/
def stepThen (s : State) (p : State → Bool) : Bool :=
  match step s with
  | .next t => p t
  | _ => false

/-- V41.1 (R201). -/
theorem test_V41_1 :
    stepGives (let s := codeAt 0xC000 [0x78]
      { s with regs := { s.regs with a := 0x00, b := 0x12 } })
      (fun r => { r with a := 0x12, pc := 0xC001 }) 4 [] = true := by
  decide +kernel

/-- V41.2 (R201): LD B,B changes nothing. -/
theorem test_V41_2 :
    stepGives (let s := codeAt 0xC000 [0x40]
      { s with regs := { s.regs with b := 0x12 } })
      (fun r => { r with pc := 0xC001 }) 4 [] = true := by
  decide +kernel

/-- V41.3 (R202). -/
theorem test_V41_3 :
    stepGives (let s := codeAt 0xC000 [0x0E, 0x5A]
      { s with regs := { s.regs with c := 0x00 } })
      (fun r => { r with c := 0x5A, pc := 0xC002 }) 8 [] = true := by
  decide +kernel

/-- V41.4 (R203). -/
theorem test_V41_4 :
    stepGives (let s := pokes (codeAt 0xC000 [0x56]) 0xC100 [0x99]
      { s with regs := { s.regs with h := 0xC1, l := 0x00 } })
      (fun r => { r with d := 0x99, pc := 0xC001 }) 8 [(0xC100, 0x99)] = true := by
  decide +kernel

/-- V41.5 (R203): address from HL before the load. -/
theorem test_V41_5 :
    stepGives (let s := pokes (codeAt 0xC000 [0x66]) 0xC100 [0x99]
      { s with regs := { s.regs with h := 0xC1, l := 0x00 } })
      (fun r => { r with h := 0x99, pc := 0xC001 }) 8 [(0xC100, 0x99)] = true := by
  decide +kernel

/-- V41.6 (R204): stores H of the address itself. -/
theorem test_V41_6 :
    stepGives (let s := codeAt 0xC000 [0x74]
      { s with regs := { s.regs with h := 0xC1, l := 0x23 } })
      (fun r => { r with pc := 0xC001 }) 8 [(0xC123, 0xC1)] = true := by
  decide +kernel

/-- V41.7 (R205). -/
theorem test_V41_7 :
    stepGives (let s := codeAt 0xC000 [0x36, 0x07]
      { s with regs := { s.regs with h := 0xFF, l := 0x80 } })
      (fun r => { r with pc := 0xC002 }) 12 [(0xFF80, 0x07)] = true := by
  decide +kernel

/-- V41.8 (R206). -/
theorem test_V41_8 :
    stepGives (let s := pokes (codeAt 0xC000 [0x0A]) 0xC123 [0x01]
      { s with regs := { s.regs with a := 0x00, b := 0xC1, c := 0x23 } })
      (fun r => { r with a := 0x01, pc := 0xC001 }) 8 [(0xC123, 0x01)] = true := by
  decide +kernel

/-- V41.9 (R209). -/
theorem test_V41_9 :
    stepGives (let s := codeAt 0xC000 [0x12]
      { s with regs := { s.regs with a := 0xAA, d := 0xD0, e := 0x00 } })
      (fun r => { r with pc := 0xC001 }) 8 [(0xD000, 0xAA)] = true := by
  decide +kernel

/-- V41.10 (R210): reads IE. -/
theorem test_V41_10 :
    stepGives (let s := codeAt 0xC000 [0xFA, 0xFF, 0xFF]
      { s with regs := { s.regs with a := 0x00 }, ie := 0x15 })
      (fun r => { r with a := 0x15, pc := 0xC003 }) 16 [] = true := by
  decide +kernel

/-- V41.11 (R210): unusable range reads SENTINEL. -/
theorem test_V41_11 :
    stepGives (let s := codeAt 0xC000 [0xFA, 0xA0, 0xFE]
      { s with regs := { s.regs with a := 0x00 } })
      (fun r => { r with a := 0xFF, pc := 0xC003 }) 16 [] = true := by
  decide +kernel

/-- V41.13 (R211). -/
theorem test_V41_13 :
    stepGives (let s := codeAt 0xC000 [0xEA, 0x00, 0x80]
      { s with regs := { s.regs with a := 0x42 } })
      (fun r => { r with pc := 0xC003 }) 16 [(0x8000, 0x42)] = true := by
  decide +kernel

/-- V41.14 (R211): ROM-only: ROM write ignored. -/
theorem test_V41_14 :
    stepGives (let s := codeAt 0xC000 [0xEA, 0x00, 0x01]
      { s with regs := { s.regs with a := 0x42 } })
      (fun r => { r with pc := 0xC003 }) 16 [(0x0100, 0x00)] = true := by
  decide +kernel

/-- V41.15 (R212): P1 reads 0xCF after reset. -/
theorem test_V41_15 :
    stepGives (let s := codeAt 0xC000 [0xF0, 0x00]
      { s with regs := { s.regs with a := 0x00 } })
      (fun r => { r with a := 0xCF, pc := 0xC002 }) 12 [] = true := by
  decide +kernel

/-- V41.16 (R212): IF reads 0xE1 after reset. -/
theorem test_V41_16 :
    stepGives (let s := codeAt 0xC000 [0xF0, 0x0F]
      { s with regs := { s.regs with a := 0x00 } })
      (fun r => { r with a := 0xE1, pc := 0xC002 }) 12 [] = true := by
  decide +kernel

/-- V41.17 (R213). -/
theorem test_V41_17 :
    stepGives (let s := codeAt 0xC000 [0xE0, 0x80]
      { s with regs := { s.regs with a := 0x5A } })
      (fun r => { r with pc := 0xC002 }) 12 [(0xFF80, 0x5A)] = true := by
  decide +kernel

/-- V41.18 (R213): LY write ignored. -/
theorem test_V41_18 :
    stepGives (let s := codeAt 0xC000 [0xE0, 0x44]
      { s with regs := { s.regs with a := 0x5A } })
      (fun r => { r with pc := 0xC002 }) 12 [(0xFF44, 0x00)] = true := by
  decide +kernel

/-- V41.19 (R214): reads IE. -/
theorem test_V41_19 :
    stepGives (let s := codeAt 0xC000 [0xF2]
      { s with regs := { s.regs with a := 0x00, c := 0xFF }, ie := 0x1F })
      (fun r => { r with a := 0x1F, pc := 0xC001 }) 8 [] = true := by
  decide +kernel

/-- V41.20 (R215). -/
theorem test_V41_20 :
    stepGives (let s := codeAt 0xC000 [0xE2]
      { s with regs := { s.regs with a := 0x22, c := 0x81 } })
      (fun r => { r with pc := 0xC001 }) 8 [(0xFF81, 0x22)] = true := by
  decide +kernel

/-- V41.21 (R216). -/
theorem test_V41_21 :
    stepGives (let s := pokes (codeAt 0xC000 [0x2A]) 0xC100 [0x07]
      { s with regs := { s.regs with h := 0xC1, l := 0x00 } })
      (fun r => { r with a := 0x07, l := 0x01, pc := 0xC001 }) 8 [(0xC100, 0x07)] = true := by
  decide +kernel

/-- V41.22 (R216): HL wraps to 0000. -/
theorem test_V41_22 :
    stepGives (let s := codeAt 0xC000 [0x2A]
      { s with regs := { s.regs with h := 0xFF, l := 0xFF }, ie := 0x01 })
      (fun r => { r with h := 0x00, l := 0x00, pc := 0xC001 }) 8 [] = true := by
  decide +kernel

/-- V41.23 (R217). -/
theorem test_V41_23 :
    stepGives (let s := pokes (codeAt 0xC000 [0x3A]) 0xC001 [0x09]
      { s with regs := { s.regs with h := 0xC0, l := 0x01 } })
      (fun r => { r with a := 0x09, l := 0x00, pc := 0xC001 }) 8 [(0xC001, 0x09)] = true := by
  decide +kernel

/-- V41.24 (R218). -/
theorem test_V41_24 :
    stepGives (let s := codeAt 0xC000 [0x22]
      { s with regs := { s.regs with a := 0x10, h := 0xC1, l := 0x00 } })
      (fun r => { r with l := 0x01, pc := 0xC001 }) 8 [(0xC100, 0x10)] = true := by
  decide +kernel

/-- V41.25 (R219): mapper write, HL wraps to FFFF. -/
theorem test_V41_25 :
    stepGives (let s := codeAt 0xC000 [0x32]
      { s with regs := { s.regs with a := 0x10, h := 0x00, l := 0x00 } })
      (fun r => { r with h := 0xFF, l := 0xFF, pc := 0xC001 }) 8 [(0x0000, 0x00)] = true := by
  decide +kernel

/-- V42.1 (R230). -/
theorem test_V42_1 :
    stepGives (let s := codeAt 0xC000 [0x01, 0x34, 0x12]
      { s with regs := { s.regs with b := 0x00, c := 0x00 } })
      (fun r => { r with b := 0x12, c := 0x34, pc := 0xC003 }) 12 [] = true := by
  decide +kernel

/-- V42.2 (R230). -/
theorem test_V42_2 :
    stepGives (let s := codeAt 0xC000 [0x31, 0x00, 0xE0]
      { s with regs := { s.regs with sp := 0xFFFE } })
      (fun r => { r with sp := 0xE000, pc := 0xC003 }) 12 [] = true := by
  decide +kernel

/-- V42.3 (R231). -/
theorem test_V42_3 :
    stepGives (let s := codeAt 0xC000 [0x08, 0x00, 0xC1]
      { s with regs := { s.regs with sp := 0xFFF8 } })
      (fun r => { r with pc := 0xC003 }) 20 [(0xC100, 0xF8), (0xC101, 0xFF)] = true := by
  decide +kernel

/-- V42.4 (R231): low byte to IE; high byte to 0000 (mapper write, ignored on ROM-only). -/
theorem test_V42_4 :
    stepGives (let s := codeAt 0xC000 [0x08, 0xFF, 0xFF]
      { s with regs := { s.regs with sp := 0x1234 }, ie := 0x00 })
      (fun r => { r with pc := 0xC003 }) 20 [(0xFFFF, 0x34)] = true := by
  decide +kernel

/-- V42.5 (R232). -/
theorem test_V42_5 :
    stepGives (let s := codeAt 0xC000 [0xF9]
      { s with regs := { s.regs with h := 0xDF, l := 0xF0, sp := 0xFFFE } })
      (fun r => { r with sp := 0xDFF0, pc := 0xC001 }) 8 [] = true := by
  decide +kernel

/-- V42.6 (R233). -/
theorem test_V42_6 :
    stepGives (let s := codeAt 0xC000 [0xF8, 0x02]
      { s with regs := { s.regs with f := 0xF0, sp := 0xFFF8 } })
      (fun r => { r with f := 0x00, h := 0xFF, l := 0xFA, pc := 0xC002 }) 12 [] = true := by
  decide +kernel

/-- V42.7 (R233): e8 = -1: no carries. -/
theorem test_V42_7 :
    stepGives (let s := codeAt 0xC000 [0xF8, 0xFF]
      { s with regs := { s.regs with f := 0x00, sp := 0x0000 } })
      (fun r => { r with h := 0xFF, l := 0xFF, pc := 0xC002 }) 12 [] = true := by
  decide +kernel

/-- V42.9 (R234). -/
theorem test_V42_9 :
    stepGives (let s := codeAt 0xC000 [0xC5]
      { s with regs := { s.regs with b := 0x12, c := 0x34, sp := 0xFFFE } })
      (fun r => { r with sp := 0xFFFC, pc := 0xC001 }) 16 [(0xFFFD, 0x12), (0xFFFC, 0x34)] = true := by
  decide +kernel

/-- V42.10 (R234). -/
theorem test_V42_10 :
    stepGives (let s := codeAt 0xC000 [0xF5]
      { s with regs := { s.regs with a := 0x12, f := 0xB0, sp := 0xFFFE } })
      (fun r => { r with sp := 0xFFFC, pc := 0xC001 }) 16 [(0xFFFD, 0x12), (0xFFFC, 0xB0)] = true := by
  decide +kernel

/-- V42.12 (R235). -/
theorem test_V42_12 :
    stepGives (let s := pokes (pokes (codeAt 0xC000 [0xD1]) 0xFFFC [0x34]) 0xFFFD [0x12]
      { s with regs := { s.regs with sp := 0xFFFC } })
      (fun r => { r with d := 0x12, e := 0x34, sp := 0xFFFE, pc := 0xC001 }) 12 [(0xFFFC, 0x34), (0xFFFD, 0x12)] = true := by
  decide +kernel

/-- V42.13 (R236): F low nibble forced to 0. -/
theorem test_V42_13 :
    stepGives (let s := pokes (pokes (codeAt 0xC000 [0xF1]) 0xFFFC [0xFF]) 0xFFFD [0x12]
      { s with regs := { s.regs with sp := 0xFFFC } })
      (fun r => { r with a := 0x12, f := 0xF0, sp := 0xFFFE, pc := 0xC001 }) 12 [(0xFFFC, 0xFF), (0xFFFD, 0x12)] = true := by
  decide +kernel

/-- V43.1 (R252). -/
theorem test_V43_1 :
    stepGives (let s := codeAt 0xC000 [0x80]
      { s with regs := { s.regs with a := 0x3A, f := 0x00, b := 0xC6 } })
      (fun r => { r with a := 0x00, f := 0xB0, pc := 0xC001 }) 4 [] = true := by
  decide +kernel

/-- V43.2 (R252): ADD A,A: 0x80+0x80. -/
theorem test_V43_2 :
    stepGives (let s := codeAt 0xC000 [0x87]
      { s with regs := { s.regs with a := 0x80, f := 0x00 } })
      (fun r => { r with a := 0x00, f := 0x90, pc := 0xC001 }) 4 [] = true := by
  decide +kernel

/-- V43.3 (R253). -/
theorem test_V43_3 :
    stepGives (let s := pokes (codeAt 0xC000 [0x86]) 0xC100 [0xC6]
      { s with regs := { s.regs with a := 0x3A, f := 0x00, h := 0xC1, l := 0x00 } })
      (fun r => { r with a := 0x00, f := 0xB0, pc := 0xC001 }) 8 [(0xC100, 0xC6)] = true := by
  decide +kernel

/-- V43.4 (R254). -/
theorem test_V43_4 :
    stepGives (let s := codeAt 0xC000 [0xC6, 0x01]
      { s with regs := { s.regs with a := 0x0F, f := 0x00 } })
      (fun r => { r with a := 0x10, f := 0x20, pc := 0xC002 }) 8 [] = true := by
  decide +kernel

/-- V43.5 (R255). -/
theorem test_V43_5 :
    stepGives (let s := codeAt 0xC000 [0x8B]
      { s with regs := { s.regs with a := 0xE1, f := 0x10, e := 0x0F } })
      (fun r => { r with a := 0xF1, f := 0x20, pc := 0xC001 }) 4 [] = true := by
  decide +kernel

/-- V43.6 (R257): carry-in makes the half carry. -/
theorem test_V43_6 :
    stepGives (let s := codeAt 0xC000 [0xCE, 0x00]
      { s with regs := { s.regs with a := 0x0F, f := 0x10 } })
      (fun r => { r with a := 0x10, f := 0x20, pc := 0xC002 }) 8 [] = true := by
  decide +kernel

/-- V43.7 (R257): A + 0xFF + 1 = A with C and H. -/
theorem test_V43_7 :
    stepGives (let s := codeAt 0xC000 [0xCE, 0xFF]
      { s with regs := { s.regs with a := 0x55, f := 0x10 } })
      (fun r => { r with f := 0x30, pc := 0xC002 }) 8 [] = true := by
  decide +kernel

/-- V43.8 (R258). -/
theorem test_V43_8 :
    stepGives (let s := codeAt 0xC000 [0x93]
      { s with regs := { s.regs with a := 0x3E, f := 0x00, e := 0x3E } })
      (fun r => { r with a := 0x00, f := 0xC0, pc := 0xC001 }) 4 [] = true := by
  decide +kernel

/-- V43.9 (R259). -/
theorem test_V43_9 :
    stepGives (let s := pokes (codeAt 0xC000 [0x96]) 0xC100 [0x40]
      { s with regs := { s.regs with a := 0x3E, f := 0x00, h := 0xC1, l := 0x00 } })
      (fun r => { r with a := 0xFE, f := 0x50, pc := 0xC001 }) 8 [(0xC100, 0x40)] = true := by
  decide +kernel

/-- V43.10 (R260). -/
theorem test_V43_10 :
    stepGives (let s := codeAt 0xC000 [0xD6, 0x0F]
      { s with regs := { s.regs with a := 0x3E, f := 0x00 } })
      (fun r => { r with a := 0x2F, f := 0x60, pc := 0xC002 }) 8 [] = true := by
  decide +kernel

/-- V43.11 (R258): SUB A. -/
theorem test_V43_11 :
    stepGives (let s := codeAt 0xC000 [0x97]
      { s with regs := { s.regs with a := 0x77, f := 0x00 } })
      (fun r => { r with a := 0x00, f := 0xC0, pc := 0xC001 }) 4 [] = true := by
  decide +kernel

/-- V43.12 (R261). -/
theorem test_V43_12 :
    stepGives (let s := codeAt 0xC000 [0x9A]
      { s with regs := { s.regs with a := 0x3B, f := 0x10, d := 0x2A } })
      (fun r => { r with a := 0x10, f := 0x40, pc := 0xC001 }) 4 [] = true := by
  decide +kernel

/-- V43.13 (R261): SBC A,A with C=1. -/
theorem test_V43_13 :
    stepGives (let s := codeAt 0xC000 [0x9F]
      { s with regs := { s.regs with a := 0x55, f := 0x10 } })
      (fun r => { r with a := 0xFF, f := 0x70, pc := 0xC001 }) 4 [] = true := by
  decide +kernel

/-- V43.15 (R263). -/
theorem test_V43_15 :
    stepGives (let s := codeAt 0xC000 [0xDE, 0x3A]
      { s with regs := { s.regs with a := 0x3B, f := 0x10 } })
      (fun r => { r with a := 0x00, f := 0xC0, pc := 0xC002 }) 8 [] = true := by
  decide +kernel

/-- V43.16 (R263): 0 - 0 - 1: full borrow. -/
theorem test_V43_16 :
    stepGives (let s := codeAt 0xC000 [0xDE, 0x00]
      { s with regs := { s.regs with a := 0x00, f := 0x10 } })
      (fun r => { r with a := 0xFF, f := 0x70, pc := 0xC002 }) 8 [] = true := by
  decide +kernel

/-- V43.17 (R264). -/
theorem test_V43_17 :
    stepGives (let s := codeAt 0xC000 [0xA5]
      { s with regs := { s.regs with a := 0x5A, f := 0x00, l := 0x3F } })
      (fun r => { r with a := 0x1A, f := 0x20, pc := 0xC001 }) 4 [] = true := by
  decide +kernel

/-- V43.18 (R265). -/
theorem test_V43_18 :
    stepGives (let s := codeAt 0xC000 [0xA6]
      { s with regs := { s.regs with a := 0x5A, f := 0x10, h := 0xC1, l := 0x00 } })
      (fun r => { r with a := 0x00, f := 0xA0, pc := 0xC001 }) 8 [(0xC100, 0x00)] = true := by
  decide +kernel

/-- V43.19 (R266). -/
theorem test_V43_19 :
    stepGives (let s := codeAt 0xC000 [0xE6, 0x38]
      { s with regs := { s.regs with a := 0x5A, f := 0x00 } })
      (fun r => { r with a := 0x18, f := 0x20, pc := 0xC002 }) 8 [] = true := by
  decide +kernel

/-- V43.20 (R267): XOR A. -/
theorem test_V43_20 :
    stepGives (let s := codeAt 0xC000 [0xAF]
      { s with regs := { s.regs with a := 0xFF, f := 0x70 } })
      (fun r => { r with a := 0x00, f := 0x80, pc := 0xC001 }) 4 [] = true := by
  decide +kernel

/-- V43.21 (R269). -/
theorem test_V43_21 :
    stepGives (let s := codeAt 0xC000 [0xEE, 0x0F]
      { s with regs := { s.regs with a := 0xFF, f := 0x00 } })
      (fun r => { r with a := 0xF0, pc := 0xC002 }) 8 [] = true := by
  decide +kernel

/-- V43.22 (R270): OR A clears C. -/
theorem test_V43_22 :
    stepGives (let s := codeAt 0xC000 [0xB7]
      { s with regs := { s.regs with a := 0x5A, f := 0x10 } })
      (fun r => { r with f := 0x00, pc := 0xC001 }) 4 [] = true := by
  decide +kernel

/-- V43.23 (R272). -/
theorem test_V43_23 :
    stepGives (let s := codeAt 0xC000 [0xF6, 0x00]
      { s with regs := { s.regs with a := 0x00, f := 0x00 } })
      (fun r => { r with f := 0x80, pc := 0xC002 }) 8 [] = true := by
  decide +kernel

/-- V43.24 (R273). -/
theorem test_V43_24 :
    stepGives (let s := codeAt 0xC000 [0xB8]
      { s with regs := { s.regs with a := 0x3C, f := 0x00, b := 0x2F } })
      (fun r => { r with f := 0x60, pc := 0xC001 }) 4 [] = true := by
  decide +kernel

/-- V43.25 (R274). -/
theorem test_V43_25 :
    stepGives (let s := pokes (codeAt 0xC000 [0xBE]) 0xC100 [0x40]
      { s with regs := { s.regs with a := 0x3C, f := 0x00, h := 0xC1, l := 0x00 } })
      (fun r => { r with f := 0x50, pc := 0xC001 }) 8 [(0xC100, 0x40)] = true := by
  decide +kernel

/-- V43.26 (R275). -/
theorem test_V43_26 :
    stepGives (let s := codeAt 0xC000 [0xFE, 0x3C]
      { s with regs := { s.regs with a := 0x3C, f := 0x00 } })
      (fun r => { r with f := 0xC0, pc := 0xC002 }) 8 [] = true := by
  decide +kernel

/-- V43.27 (R276): INC keeps C. -/
theorem test_V43_27 :
    stepGives (let s := codeAt 0xC000 [0x3C]
      { s with regs := { s.regs with a := 0xFF, f := 0x10 } })
      (fun r => { r with a := 0x00, f := 0xB0, pc := 0xC001 }) 4 [] = true := by
  decide +kernel

/-- V43.28 (R276). -/
theorem test_V43_28 :
    stepGives (let s := codeAt 0xC000 [0x3C]
      { s with regs := { s.regs with a := 0x0F, f := 0x00 } })
      (fun r => { r with a := 0x10, f := 0x20, pc := 0xC001 }) 4 [] = true := by
  decide +kernel

/-- V43.29 (R278): DEC 0x00. -/
theorem test_V43_29 :
    stepGives (let s := codeAt 0xC000 [0x05]
      { s with regs := { s.regs with a := 0x00, f := 0x00, b := 0x00 } })
      (fun r => { r with f := 0x60, b := 0xFF, pc := 0xC001 }) 4 [] = true := by
  decide +kernel

/-- V43.30 (R278). -/
theorem test_V43_30 :
    stepGives (let s := codeAt 0xC000 [0x05]
      { s with regs := { s.regs with a := 0x00, f := 0x10, b := 0x01 } })
      (fun r => { r with f := 0xD0, b := 0x00, pc := 0xC001 }) 4 [] = true := by
  decide +kernel

/-- V43.31 (R277). -/
theorem test_V43_31 :
    stepGives (let s := pokes (codeAt 0xC000 [0x34]) 0xC100 [0xFF]
      { s with regs := { s.regs with f := 0x00, h := 0xC1, l := 0x00 } })
      (fun r => { r with f := 0xA0, pc := 0xC001 }) 12 [(0xC100, 0x00)] = true := by
  decide +kernel

/-- V43.32 (R279). -/
theorem test_V43_32 :
    stepGives (let s := pokes (codeAt 0xC000 [0x35]) 0xC100 [0x01]
      { s with regs := { s.regs with f := 0x10, h := 0xC1, l := 0x00 } })
      (fun r => { r with f := 0xD0, pc := 0xC001 }) 12 [(0xC100, 0x00)] = true := by
  decide +kernel

/-- V43.33 (R277): unbacked: reads FF, write dropped. -/
theorem test_V43_33 :
    stepGives (let s := pokes (codeAt 0xC000 [0x34]) 0xFEA0 [0xFF]
      { s with regs := { s.regs with f := 0x00, h := 0xFE, l := 0xA0 } })
      (fun r => { r with f := 0xA0, pc := 0xC001 }) 12 [(0xFEA0, 0xFF)] = true := by
  decide +kernel

/-- V43.34 (R280): after 0x45+0x38. -/
theorem test_V43_34 :
    stepGives (let s := codeAt 0xC000 [0x27]
      { s with regs := { s.regs with a := 0x7D, f := 0x00 } })
      (fun r => { r with a := 0x83, pc := 0xC001 }) 4 [] = true := by
  decide +kernel

/-- V43.35 (R280): 0x99+0x01 = 0x9A -> 00, C. -/
theorem test_V43_35 :
    stepGives (let s := codeAt 0xC000 [0x27]
      { s with regs := { s.regs with a := 0x9A, f := 0x00 } })
      (fun r => { r with a := 0x00, f := 0x90, pc := 0xC001 }) 4 [] = true := by
  decide +kernel

/-- V43.38 (R280): 0x00-0x01 with N,H,C -> 0x99. -/
theorem test_V43_38 :
    stepGives (let s := codeAt 0xC000 [0x27]
      { s with regs := { s.regs with a := 0xFF, f := 0x70 } })
      (fun r => { r with a := 0x99, f := 0x50, pc := 0xC001 }) 4 [] = true := by
  decide +kernel

/-- V43.40 (R281). -/
theorem test_V43_40 :
    stepGives (let s := codeAt 0xC000 [0x2F]
      { s with regs := { s.regs with a := 0x35, f := 0x80 } })
      (fun r => { r with a := 0xCA, f := 0xE0, pc := 0xC001 }) 4 [] = true := by
  decide +kernel

/-- V43.41 (R282). -/
theorem test_V43_41 :
    stepGives (let s := codeAt 0xC000 [0x37]
      { s with regs := { s.regs with a := 0x00, f := 0xE0 } })
      (fun r => { r with f := 0x90, pc := 0xC001 }) 4 [] = true := by
  decide +kernel

/-- V43.42 (R283). -/
theorem test_V43_42 :
    stepGives (let s := codeAt 0xC000 [0x3F]
      { s with regs := { s.regs with a := 0x00, f := 0x90 } })
      (fun r => { r with f := 0x80, pc := 0xC001 }) 4 [] = true := by
  decide +kernel

/-- V43.43 (R283). -/
theorem test_V43_43 :
    stepGives (let s := codeAt 0xC000 [0x3F]
      { s with regs := { s.regs with a := 0x00, f := 0x60 } })
      (fun r => { r with f := 0x10, pc := 0xC001 }) 4 [] = true := by
  decide +kernel

/-- V44.1 (R290). -/
theorem test_V44_1 :
    stepGives (let s := codeAt 0xC000 [0x09]
      { s with regs := { s.regs with f := 0x80, b := 0x06, c := 0x05, h := 0x8A, l := 0x23 } })
      (fun r => { r with f := 0xA0, h := 0x90, l := 0x28, pc := 0xC001 }) 8 [] = true := by
  decide +kernel

/-- V44.2 (R290). -/
theorem test_V44_2 :
    stepGives (let s := codeAt 0xC000 [0x29]
      { s with regs := { s.regs with f := 0x00, h := 0x8A, l := 0x23 } })
      (fun r => { r with f := 0x30, h := 0x14, l := 0x46, pc := 0xC001 }) 8 [] = true := by
  decide +kernel

/-- V44.5 (R291). -/
theorem test_V44_5 :
    stepGives (let s := codeAt 0xC000 [0x13]
      { s with regs := { s.regs with f := 0xF0, d := 0xFF, e := 0xFF } })
      (fun r => { r with d := 0x00, e := 0x00, pc := 0xC001 }) 8 [] = true := by
  decide +kernel

/-- V44.6 (R292). -/
theorem test_V44_6 :
    stepGives (let s := codeAt 0xC000 [0x3B]
      { s with regs := { s.regs with f := 0x00, sp := 0x0000 } })
      (fun r => { r with sp := 0xFFFF, pc := 0xC001 }) 8 [] = true := by
  decide +kernel

/-- V44.7 (R292). -/
theorem test_V44_7 :
    stepGives (let s := codeAt 0xC000 [0x0B]
      { s with regs := { s.regs with f := 0x00, b := 0x01, c := 0x00 } })
      (fun r => { r with b := 0x00, c := 0xFF, pc := 0xC001 }) 8 [] = true := by
  decide +kernel

/-- V44.8 (R293). -/
theorem test_V44_8 :
    stepGives (let s := codeAt 0xC000 [0xE8, 0x08]
      { s with regs := { s.regs with f := 0xF0, sp := 0xFFF8 } })
      (fun r => { r with f := 0x30, sp := 0x0000, pc := 0xC002 }) 16 [] = true := by
  decide +kernel

/-- V44.9 (R293). -/
theorem test_V44_9 :
    stepGives (let s := codeAt 0xC000 [0xE8, 0xFE]
      { s with regs := { s.regs with f := 0x00, sp := 0xFFF8 } })
      (fun r => { r with f := 0x30, sp := 0xFFF6, pc := 0xC002 }) 16 [] = true := by
  decide +kernel

/-- V45.1 (R300). -/
theorem test_V45_1 :
    stepGives (let s := codeAt 0xC000 [0x07]
      { s with regs := { s.regs with a := 0x85, f := 0x80 } })
      (fun r => { r with a := 0x0B, f := 0x10, pc := 0xC001 }) 4 [] = true := by
  decide +kernel

/-- V45.2 (R300): Z forced 0. -/
theorem test_V45_2 :
    stepGives (let s := codeAt 0xC000 [0x07]
      { s with regs := { s.regs with a := 0x00, f := 0x80 } })
      (fun r => { r with f := 0x00, pc := 0xC001 }) 4 [] = true := by
  decide +kernel

/-- V45.3 (R301). -/
theorem test_V45_3 :
    stepGives (let s := codeAt 0xC000 [0x0F]
      { s with regs := { s.regs with a := 0x3B, f := 0x00 } })
      (fun r => { r with a := 0x9D, f := 0x10, pc := 0xC001 }) 4 [] = true := by
  decide +kernel

/-- V45.4 (R302). -/
theorem test_V45_4 :
    stepGives (let s := codeAt 0xC000 [0x17]
      { s with regs := { s.regs with a := 0x95, f := 0x10 } })
      (fun r => { r with a := 0x2B, pc := 0xC001 }) 4 [] = true := by
  decide +kernel

/-- V45.5 (R303). -/
theorem test_V45_5 :
    stepGives (let s := codeAt 0xC000 [0x1F]
      { s with regs := { s.regs with a := 0x81, f := 0x00 } })
      (fun r => { r with a := 0x40, f := 0x10, pc := 0xC001 }) 4 [] = true := by
  decide +kernel

/-- V45.6 (R305). -/
theorem test_V45_6 :
    stepGives (let s := codeAt 0xC000 [0xCB, 0x00]
      { s with regs := { s.regs with f := 0x00, b := 0x85 } })
      (fun r => { r with f := 0x10, b := 0x0B, pc := 0xC002 }) 8 [] = true := by
  decide +kernel

/-- V45.7 (R305): RLC A sets Z, unlike RLCA. -/
theorem test_V45_7 :
    stepGives (let s := codeAt 0xC000 [0xCB, 0x07]
      { s with regs := { s.regs with a := 0x00, f := 0x00 } })
      (fun r => { r with f := 0x80, pc := 0xC002 }) 8 [] = true := by
  decide +kernel

/-- V45.8 (R306). -/
theorem test_V45_8 :
    stepGives (let s := pokes (codeAt 0xC000 [0xCB, 0x06]) 0xC100 [0x80]
      { s with regs := { s.regs with f := 0x00, h := 0xC1, l := 0x00 } })
      (fun r => { r with f := 0x10, pc := 0xC002 }) 16 [(0xC100, 0x01)] = true := by
  decide +kernel

/-- V45.9 (R307). -/
theorem test_V45_9 :
    stepGives (let s := codeAt 0xC000 [0xCB, 0x09]
      { s with regs := { s.regs with f := 0x00, c := 0x01 } })
      (fun r => { r with f := 0x10, c := 0x80, pc := 0xC002 }) 8 [] = true := by
  decide +kernel

/-- V45.10 (R309). -/
theorem test_V45_10 :
    stepGives (let s := codeAt 0xC000 [0xCB, 0x12]
      { s with regs := { s.regs with f := 0x00, d := 0x80 } })
      (fun r => { r with f := 0x90, d := 0x00, pc := 0xC002 }) 8 [] = true := by
  decide +kernel

/-- V45.11 (R310). -/
theorem test_V45_11 :
    stepGives (let s := pokes (codeAt 0xC000 [0xCB, 0x16]) 0xC100 [0x11]
      { s with regs := { s.regs with f := 0x10, h := 0xC1, l := 0x00 } })
      (fun r => { r with f := 0x00, pc := 0xC002 }) 16 [(0xC100, 0x23)] = true := by
  decide +kernel

/-- V45.12 (R311). -/
theorem test_V45_12 :
    stepGives (let s := codeAt 0xC000 [0xCB, 0x1B]
      { s with regs := { s.regs with f := 0x00, e := 0x01 } })
      (fun r => { r with f := 0x90, e := 0x00, pc := 0xC002 }) 8 [] = true := by
  decide +kernel

/-- V45.13 (R312). -/
theorem test_V45_13 :
    stepGives (let s := pokes (codeAt 0xC000 [0xCB, 0x1E]) 0xC100 [0x8A]
      { s with regs := { s.regs with f := 0x10, h := 0xC1, l := 0x00 } })
      (fun r => { r with f := 0x00, pc := 0xC002 }) 16 [(0xC100, 0xC5)] = true := by
  decide +kernel

/-- V45.14 (R313). -/
theorem test_V45_14 :
    stepGives (let s := codeAt 0xC000 [0xCB, 0x24]
      { s with regs := { s.regs with f := 0x00, h := 0x80 } })
      (fun r => { r with f := 0x90, h := 0x00, pc := 0xC002 }) 8 [] = true := by
  decide +kernel

/-- V45.15 (R315). -/
theorem test_V45_15 :
    stepGives (let s := codeAt 0xC000 [0xCB, 0x2D]
      { s with regs := { s.regs with f := 0x00, l := 0x8A } })
      (fun r => { r with l := 0xC5, pc := 0xC002 }) 8 [] = true := by
  decide +kernel

/-- V45.16 (R316). -/
theorem test_V45_16 :
    stepGives (let s := pokes (codeAt 0xC000 [0xCB, 0x2E]) 0xC100 [0x01]
      { s with regs := { s.regs with f := 0x00, h := 0xC1, l := 0x00 } })
      (fun r => { r with f := 0x90, pc := 0xC002 }) 16 [(0xC100, 0x00)] = true := by
  decide +kernel

/-- V45.17 (R317). -/
theorem test_V45_17 :
    stepGives (let s := codeAt 0xC000 [0xCB, 0x37]
      { s with regs := { s.regs with a := 0xF0, f := 0x10 } })
      (fun r => { r with a := 0x0F, f := 0x00, pc := 0xC002 }) 8 [] = true := by
  decide +kernel

/-- V45.18 (R318). -/
theorem test_V45_18 :
    stepGives (let s := codeAt 0xC000 [0xCB, 0x36]
      { s with regs := { s.regs with f := 0x00, h := 0xC1, l := 0x00 } })
      (fun r => { r with f := 0x80, pc := 0xC002 }) 16 [(0xC100, 0x00)] = true := by
  decide +kernel

/-- V45.19 (R319). -/
theorem test_V45_19 :
    stepGives (let s := codeAt 0xC000 [0xCB, 0x3F]
      { s with regs := { s.regs with a := 0x01, f := 0x00 } })
      (fun r => { r with a := 0x00, f := 0x90, pc := 0xC002 }) 8 [] = true := by
  decide +kernel

/-- V45.20 (R320). -/
theorem test_V45_20 :
    stepGives (let s := pokes (codeAt 0xC000 [0xCB, 0x3E]) 0xC100 [0xFF]
      { s with regs := { s.regs with f := 0x00, h := 0xC1, l := 0x00 } })
      (fun r => { r with f := 0x10, pc := 0xC002 }) 16 [(0xC100, 0x7F)] = true := by
  decide +kernel

/-- V45.21 (R321). -/
theorem test_V45_21 :
    stepGives (let s := codeAt 0xC000 [0xCB, 0x7C]
      { s with regs := { s.regs with f := 0x10, h := 0x7F } })
      (fun r => { r with f := 0xB0, pc := 0xC002 }) 8 [] = true := by
  decide +kernel

/-- V45.22 (R321): bit set: Z=0, C kept. -/
theorem test_V45_22 :
    stepGives (let s := codeAt 0xC000 [0xCB, 0x47]
      { s with regs := { s.regs with a := 0x01, f := 0xD0 } })
      (fun r => { r with f := 0x30, pc := 0xC002 }) 8 [] = true := by
  decide +kernel

/-- V45.23 (R322). -/
theorem test_V45_23 :
    stepGives (let s := pokes (codeAt 0xC000 [0xCB, 0x66]) 0xC100 [0x10]
      { s with regs := { s.regs with f := 0x00, h := 0xC1, l := 0x00 } })
      (fun r => { r with f := 0x20, pc := 0xC002 }) 12 [(0xC100, 0x10)] = true := by
  decide +kernel

/-- V45.24 (R323). -/
theorem test_V45_24 :
    stepGives (let s := codeAt 0xC000 [0xCB, 0x9F]
      { s with regs := { s.regs with a := 0xFF, f := 0x00 } })
      (fun r => { r with a := 0xF7, pc := 0xC002 }) 8 [] = true := by
  decide +kernel

/-- V45.25 (R324). -/
theorem test_V45_25 :
    stepGives (let s := pokes (codeAt 0xC000 [0xCB, 0xBE]) 0xC100 [0xFF]
      { s with regs := { s.regs with f := 0x00, h := 0xC1, l := 0x00 } })
      (fun r => { r with pc := 0xC002 }) 16 [(0xC100, 0x7F)] = true := by
  decide +kernel

/-- V45.26 (R325). -/
theorem test_V45_26 :
    stepGives (let s := codeAt 0xC000 [0xCB, 0xC0]
      { s with regs := { s.regs with f := 0x00, b := 0x00 } })
      (fun r => { r with b := 0x01, pc := 0xC002 }) 8 [] = true := by
  decide +kernel

/-- V45.27 (R326). -/
theorem test_V45_27 :
    stepGives (let s := codeAt 0xC000 [0xCB, 0xFE]
      { s with regs := { s.regs with f := 0x00, h := 0xC1, l := 0x00 } })
      (fun r => { r with pc := 0xC002 }) 16 [(0xC100, 0x80)] = true := by
  decide +kernel

/-- V45.28 (R324): read-modify-write of DIV writes it: counter reset to 0, then 16 T of Advance. -/
theorem test_V45_28 :
    stepGives (let s := codeAt 0xC000 [0xCB, 0x86]
      { s with regs := { s.regs with f := 0x00, h := 0xFF, l := 0x04 }, timer := { s.timer with div := 0x1234 } })
      (fun r => { r with pc := 0xC002 }) 16 [(0xFF04, 0x00)] = true := by
  decide +kernel

/-- V46.1 (R331). -/
theorem test_V46_1 :
    stepGives (let s := codeAt 0xC000 [0xC3, 0x50, 0x01]
      s)
      (fun r => { r with pc := 0x0150 }) 16 [] = true := by
  decide +kernel

/-- V46.2 (R332): not taken. -/
theorem test_V46_2 :
    stepGives (let s := codeAt 0xC000 [0xC2, 0x00, 0x02]
      { s with regs := { s.regs with f := 0x80 } })
      (fun r => { r with pc := 0xC003 }) 12 [] = true := by
  decide +kernel

/-- V46.3 (R332): taken. -/
theorem test_V46_3 :
    stepGives (let s := codeAt 0xC000 [0xCA, 0x00, 0x02]
      { s with regs := { s.regs with f := 0x80 } })
      (fun r => { r with pc := 0x0200 }) 16 [] = true := by
  decide +kernel

/-- V46.5 (R333). -/
theorem test_V46_5 :
    stepGives (let s := codeAt 0xC000 [0xE9]
      { s with regs := { s.regs with h := 0x12, l := 0x34 } })
      (fun r => { r with pc := 0x1234 }) 4 [] = true := by
  decide +kernel

/-- V46.6 (R334). -/
theorem test_V46_6 :
    stepGives (let s := codeAt 0xC000 [0x18, 0x05]
      s)
      (fun r => { r with pc := 0xC007 }) 12 [] = true := by
  decide +kernel

/-- V46.7 (R334): jumps to itself. -/
theorem test_V46_7 :
    stepGives (let s := codeAt 0xC000 [0x18, 0xFE]
      s)
      id 12 [] = true := by
  decide +kernel

/-- V46.9 (R335). -/
theorem test_V46_9 :
    stepGives (let s := codeAt 0xC152 [0x20, 0xFD]
      { s with regs := { s.regs with f := 0x00 } })
      (fun r => { r with pc := 0xC151 }) 12 [] = true := by
  decide +kernel

/-- V46.10 (R335): not taken. -/
theorem test_V46_10 :
    stepGives (let s := codeAt 0xC152 [0x20, 0xFD]
      { s with regs := { s.regs with f := 0x80 } })
      (fun r => { r with pc := 0xC154 }) 8 [] = true := by
  decide +kernel

/-- V46.12 (R336). -/
theorem test_V46_12 :
    stepGives (let s := codeAt 0xC150 [0xCD, 0x00, 0x02]
      { s with regs := { s.regs with sp := 0xFFFE } })
      (fun r => { r with sp := 0xFFFC, pc := 0x0200 }) 24 [(0xFFFD, 0xC1), (0xFFFC, 0x53)] = true := by
  decide +kernel

/-- V46.13 (R337): not taken: no push. -/
theorem test_V46_13 :
    stepGives (let s := codeAt 0xC150 [0xD4, 0x00, 0x02]
      { s with regs := { s.regs with f := 0x10, sp := 0xFFFE } })
      (fun r => { r with pc := 0xC153 }) 12 [] = true := by
  decide +kernel

/-- V46.14 (R337). -/
theorem test_V46_14 :
    stepGives (let s := codeAt 0xC150 [0xCC, 0x00, 0x02]
      { s with regs := { s.regs with f := 0x80, sp := 0xFFFE } })
      (fun r => { r with sp := 0xFFFC, pc := 0x0200 }) 24 [(0xFFFD, 0xC1), (0xFFFC, 0x53)] = true := by
  decide +kernel

/-- V46.15 (R338). -/
theorem test_V46_15 :
    stepGives (let s := pokes (pokes (codeAt 0xC000 [0xC9]) 0xFFFC [0x53]) 0xFFFD [0x01]
      { s with regs := { s.regs with sp := 0xFFFC } })
      (fun r => { r with sp := 0xFFFE, pc := 0x0153 }) 16 [(0xFFFC, 0x53), (0xFFFD, 0x01)] = true := by
  decide +kernel

/-- V46.16 (R339). -/
theorem test_V46_16 :
    stepGives (let s := pokes (pokes (codeAt 0xC000 [0xC8]) 0xFFFC [0x53]) 0xFFFD [0x01]
      { s with regs := { s.regs with f := 0x80, sp := 0xFFFC } })
      (fun r => { r with sp := 0xFFFE, pc := 0x0153 }) 20 [(0xFFFC, 0x53), (0xFFFD, 0x01)] = true := by
  decide +kernel

/-- V46.17 (R339): not taken. -/
theorem test_V46_17 :
    stepGives (let s := pokes (pokes (codeAt 0xC000 [0xC0]) 0xFFFC [0x53]) 0xFFFD [0x01]
      { s with regs := { s.regs with f := 0x80, sp := 0xFFFC } })
      (fun r => { r with pc := 0xC001 }) 8 [(0xFFFC, 0x53), (0xFFFD, 0x01)] = true := by
  decide +kernel

/-- V46.18 (R340). -/
theorem test_V46_18 :
    stepGives (let s := pokes (pokes (codeAt 0xC000 [0xD9]) 0xFFFC [0x53]) 0xFFFD [0x01]
      { s with regs := { s.regs with sp := 0xFFFC }, ime := false })
      (fun r => { r with sp := 0xFFFE, pc := 0x0153 }) 16 [(0xFFFC, 0x53), (0xFFFD, 0x01)] = true ∧
    stepThen (let s := pokes (pokes (codeAt 0xC000 [0xD9]) 0xFFFC [0x53]) 0xFFFD [0x01]
      { s with regs := { s.regs with sp := 0xFFFC }, ime := false })
      (fun t => t.ime == true) = true := by
  constructor <;> decide +kernel

/-- V46.19 (R341). -/
theorem test_V46_19 :
    stepGives (let s := codeAt 0xC150 [0xEF]
      { s with regs := { s.regs with sp := 0xFFFE } })
      (fun r => { r with sp := 0xFFFC, pc := 0x0028 }) 16 [(0xFFFD, 0xC1), (0xFFFC, 0x51)] = true := by
  decide +kernel

/-- V46.20 (R341). -/
theorem test_V46_20 :
    stepGives (let s := codeAt 0xC150 [0xFF]
      { s with regs := { s.regs with sp := 0xFFFE } })
      (fun r => { r with sp := 0xFFFC, pc := 0x0038 }) 16 [(0xFFFD, 0xC1), (0xFFFC, 0x51)] = true := by
  decide +kernel

/-- V47.1 (R360). -/
theorem test_V47_1 :
    stepGives (let s := codeAt 0xC000 [0x00]
      s)
      (fun r => { r with pc := 0xC001 }) 4 [] = true := by
  decide +kernel

/-- V47.2 (R361). -/
theorem test_V47_2 :
    stepGives (let s := codeAt 0xC000 [0x76]
      { s with ime := false, ie := 0x00 })
      (fun r => { r with pc := 0xC001 }) 4 [] = true ∧
    stepThen (let s := codeAt 0xC000 [0x76]
      { s with ime := false, ie := 0x00 })
      (fun t => t.runState == .halted) = true := by
  constructor <;> decide +kernel

/-- V47.4 (R361). -/
theorem test_V47_4 :
    stepGives (let s := codeAt 0xC000 [0x76, 0x00]
      { s with ime := false, ie := 0x04 })
      (fun r => { r with pc := 0xC001 }) 4 [] = true ∧
    stepThen (let s := codeAt 0xC000 [0x76, 0x00]
      { s with ime := false, ie := 0x04 })
      (fun t => t.runState == .halted) = true := by
  constructor <;> decide +kernel

/-- V47.7 (R362). -/
theorem test_V47_7 :
    stepGives (let s := codeAt 0xC000 [0x10, 0x00]
      s)
      (fun r => { r with pc := 0xC002 }) 4 [] = true := by
  decide +kernel

/-- V47.8 (R363). -/
theorem test_V47_8 :
    stepGives (let s := codeAt 0xC000 [0xF3]
      { s with ime := true })
      (fun r => { r with pc := 0xC001 }) 4 [] = true ∧
    stepThen (let s := codeAt 0xC000 [0xF3]
      { s with ime := true })
      (fun t => t.ime == false) = true := by
  constructor <;> decide +kernel

/-- V47.12 (R366). -/
theorem test_V47_12 :
    stepGives (let s := codeAt 0xC000 [0xD3]
      s)
      (fun r => { r with pc := 0xC001 }) 4 [] = true := by
  decide +kernel

/-- V47.13 (R365). -/
theorem test_V47_13 :
    stepGives (let s := codeAt 0xC000 [0xCB, 0x37]
      { s with regs := { s.regs with a := 0xF0, f := 0x00 } })
      (fun r => { r with a := 0x0F, pc := 0xC002 }) 8 [] = true := by
  decide +kernel

/-- V60.1 (R406): VBlank wins over Timer. -/
theorem test_V60_1 :
    stepGives (let s := codeAt 0xC000 [0x00]
      { s with regs := { s.regs with sp := 0xFFFE }, ime := true, ie := 0x05, ifBits := 0x05 })
      (fun r => { r with sp := 0xFFFC, pc := 0x0040 }) 20 [(0xFFFD, 0xC0), (0xFF0F, 0xE4), (0xFFFC, 0x00)] = true ∧
    stepThen (let s := codeAt 0xC000 [0x00]
      { s with regs := { s.regs with sp := 0xFFFE }, ime := true, ie := 0x05, ifBits := 0x05 })
      (fun t => t.ime == false) = true := by
  constructor <;> decide +kernel

/-- V60.2 (R406): VBlank pending but not enabled. -/
theorem test_V60_2 :
    stepGives (let s := codeAt 0xC000 [0x00]
      { s with regs := { s.regs with sp := 0xFFFE }, ime := true, ie := 0x04, ifBits := 0x05 })
      (fun r => { r with sp := 0xFFFC, pc := 0x0050 }) 20 [(0xFF0F, 0xE1)] = true ∧
    stepThen (let s := codeAt 0xC000 [0x00]
      { s with regs := { s.regs with sp := 0xFFFE }, ime := true, ie := 0x04, ifBits := 0x05 })
      (fun t => t.ime == false) = true := by
  constructor <;> decide +kernel

/-- V60.3 (R404): IME=0: no dispatch, instruction executes. -/
theorem test_V60_3 :
    stepGives (let s := codeAt 0xC000 [0x00]
      { s with ime := false, ie := 0x1F, ifBits := 0x1F })
      (fun r => { r with pc := 0xC001 }) 4 [(0xFF0F, 0xFF)] = true := by
  decide +kernel

/-- V60.10 (R421): DIV ticks over at counter 0x0100. -/
theorem test_V60_10 :
    stepGives (let s := codeAt 0xC000 [0x00]
      { s with timer := { s.timer with div := 0x00FC, tac := 0x00 }, ifBits := 0x00 })
      (fun r => { r with pc := 0xC001 }) 4 [(0xFF05, 0x00), (0xFF0F, 0xE0), (0xFF04, 0x01)] = true ∧
    stepThen (let s := codeAt 0xC000 [0x00]
      { s with timer := { s.timer with div := 0x00FC, tac := 0x00 }, ifBits := 0x00 })
      (fun t => t.timer.div == 0x0100) = true := by
  constructor <;> decide +kernel

/-- V60.11 (R426): DIV write with the selected bit 3 set: falling edge, TIMA+1; then 12 T. -/
theorem test_V60_11 :
    stepGives (let s := codeAt 0xC000 [0xE0, 0x04]
      { s with regs := { s.regs with a := 0x00 }, timer := { s.timer with div := 0x0008, tac := 0x05, tima := 0x10 }, ifBits := 0x00 })
      (fun r => { r with pc := 0xC002 }) 12 [(0xFF05, 0x11)] = true ∧
    stepThen (let s := codeAt 0xC000 [0xE0, 0x04]
      { s with regs := { s.regs with a := 0x00 }, timer := { s.timer with div := 0x0008, tac := 0x05, tima := 0x10 }, ifBits := 0x00 })
      (fun t => t.timer.div == 0x000C) = true := by
  constructor <;> decide +kernel

/-- V60.12 (R426): TAC write disabling the timer while the signal is 1. -/
theorem test_V60_12 :
    stepGives (let s := codeAt 0xC000 [0xE0, 0x07]
      { s with regs := { s.regs with a := 0x00 }, timer := { s.timer with div := 0x0008, tac := 0x05, tima := 0x10 }, ifBits := 0x00 })
      (fun r => { r with pc := 0xC002 }) 12 [(0xFF05, 0x11), (0xFF07, 0xF8)] = true := by
  decide +kernel
/-! ### Single Updates inside the longer vectors -/

/-- V47.6, second Update: the byte after HALT is executed with the PC kept, once (R28, R151). -/
theorem test_V47_6_halt_bug_repeat :
    stepGives { codeAt 0xC001 [0x3C] with haltBug := true, ie := 0x01, regs := { (codeAt 0xC001 [0x3C]).regs with a := 0 } }
      (fun r => { r with a := 0x01, f := 0x10 }) 4 [] = true ∧
    stepThen { codeAt 0xC001 [0x3C] with haltBug := true } (fun t => t.haltBug == false) = true := by
  constructor <;> decide +kernel

/-- V47.6, first Update: HALT with IME = 0 and an interrupt pending sets the latch and does not halt (R361). -/
theorem test_V47_6_halt_bug_set :
    stepThen { codeAt 0xC000 [0x76, 0x3C] with ie := 0x01 } (fun t => t.haltBug && t.runState == .running) = true := by
  decide +kernel

/-- V47.14, first Update: with HALT_BUG = false the CPU halts (R361). -/
theorem test_V47_14_halts :
    stepThen { codeAt 0xC000 [0x76, 0x3C] with ie := 0x01, params := { Params.default with haltBug := false } }
      (fun t => t.haltBug == false && t.runState == .halted) = true := by
  decide +kernel

/-- V47.3, second Update: a halted step spends 4 cycles and changes no register (R150). -/
theorem test_V47_3_halted_step :
    stepGives { codeAt 0xC001 [0x00] with runState := .halted } id 4 [] = true ∧
    stepThen { codeAt 0xC001 [0x00] with runState := .halted } (fun t => t.runState == .halted) = true := by
  constructor <;> decide +kernel

/-- V47.5: a pending interrupt wakes the CPU in a 4-cycle step with no dispatch (R361). -/
theorem test_V47_5_wake :
    stepGives { codeAt 0xC001 [0x00] with runState := .halted, ie := 0x04, ifBits := 0x05 } id 4 [] = true ∧
    stepThen { codeAt 0xC001 [0x00] with runState := .halted, ie := 0x04, ifBits := 0x05 }
      (fun t => t.runState == .running) = true := by
  constructor <;> decide +kernel

/-- V47.9, first Update: EI sets the latch and leaves IME (R364). -/
theorem test_V47_9_ei :
    stepThen { codeAt 0xC000 [0xFB] with ie := 0x01 } (fun t => t.eiPending && !t.ime && t.regs.pc == 0xC001) = true := by
  decide +kernel

/-- V47.9, second Update: the NOP executes with an interrupt pending, and IME becomes 1 (R150, R364). -/
theorem test_V47_9_nop :
    stepThen { codeAt 0xC001 [0x00] with ie := 0x01, eiPending := true }
      (fun t => t.ime && !t.eiPending && t.regs.pc == 0xC002) = true := by
  decide +kernel

/-- V47.10, third Update: VBlank is dispatched (R406). -/
theorem test_V47_10_dispatch :
    stepGives { codeAt 0xC002 [0x00] with ie := 0x01, ime := true } (fun r => { r with sp := 0xFFFC, pc := 0x0040 }) 20
      [(0xFFFD, 0xC0), (0xFFFC, 0x02), (0xFF0F, 0xE0)] = true := by
  decide +kernel

/-- V47.11, second Update: DI after EI leaves IME 0 (R363). -/
theorem test_V47_11_di :
    stepThen { codeAt 0xC001 [0xF3] with ie := 0x01, eiPending := true } (fun t => !t.ime && !t.eiPending) = true := by
  decide +kernel

/-- I1, I9: under ILLEGAL_POLICY = lock an unassigned opcode locks the CPU with the PC past it (R366). -/
theorem test_illegal_lock :
    stepThen { codeAt 0xC000 [0xED] with params := { Params.default with illegalPolicy := .lock } }
      (fun t => t.runState == .locked && t.regs.pc == 0xC001) = true := by
  decide +kernel

/-- I2: under STOP_POLICY = halt_forever STOP halts the CPU (R362). -/
theorem test_stop_halts :
    stepThen { codeAt 0xC000 [0x10, 0x00] with params := { Params.default with stopPolicy := .haltForever } }
      (fun t => t.runState == .halted && t.regs.pc == 0xC002) = true := by
  decide +kernel

/-! ### Devices -/

/-- The reset state with a timer and no request. -/
def timed (div : Word) (tac : BitVec 3) (tima tma : Byte) : State :=
  { zeroCart with ifBits := 0, timer := { div := div, tima := tima, tma := tma, tac := tac } }

/-- V60.6: 16 T-cycles at TAC = 05 are one increment (R423). -/
theorem test_V60_6_timer :
    let t := (timed 0x0000 5 0x00 0x00).advance 16
    t.timer.tima = 0x01 ∧ t.ifBits = 0 ∧ t.timer.div = 0x0010 := by
  decide +kernel

/-- V60.7: the overflow reloads from TMA and requests interrupt 2 (R424). -/
theorem test_V60_7_timer :
    let t := (timed 0x0000 5 0xFF 0x80).advance 16
    t.timer.tima = 0x80 ∧ t.ifBits = 0b00100 := by
  decide +kernel

/-- V60.9, its last T-cycle: TAC = 04 increments when `div_counter` passes 0x03FF (R422). -/
theorem test_V60_9_timer : ((timed 0x03FF 4 0x00 0x00).advance 1).timer.tima = 0x01 := by decide +kernel

/-- The reset state with no request, at a line, dot and mode. -/
def atDot (ly dot : Nat) (mode : PpuMode) : State :=
  { zeroCart with ifBits := 0, ppu := { Ppu.reset with ly := ly, dot := dot, mode := mode } }

/-- V60.13: mode 3 at dot 80 (R448). -/
theorem test_V60_13_ppu : ((atDot 0 79 .searchOam).advance 1).busRead 0xFF41 = 0x87 := by decide +kernel

/-- V60.14: mode 0 at dot 252 (R448). -/
theorem test_V60_14_ppu : ((atDot 0 251 .drawPixels).advance 1).busRead 0xFF41 = 0x84 := by decide +kernel

/-- V60.15: line 1 after dot 455 (R449). -/
theorem test_V60_15_ppu :
    let t := (atDot 0 455 .hblank).advance 1
    t.busRead 0xFF44 = 0x01 ∧ t.busRead 0xFF41 = 0x82 ∧ t.ppu.dot = 0 := by
  decide +kernel

/-- V60.17: the frame is published at (144, 0), with IF bit 0 (R454). -/
theorem test_V60_17_ppu :
    let t := (atDot 143 455 .hblank).advance 1
    t.busRead 0xFF44 = 0x90 ∧ t.busRead 0xFF41 = 0x81 ∧ t.busRead 0xFF0F = 0xE1 ∧ t.ppu.frames = 1 := by
  decide +kernel

/-- V60.18: line 0 again after line 153 (R449). -/
theorem test_V60_18_ppu :
    let t := (atDot 153 455 .vblank).advance 1
    t.busRead 0xFF44 = 0x00 ∧ t.busRead 0xFF41 = 0x86 ∧ t.ppu.dot = 0 := by
  decide +kernel

/-- V60.19: the LYC interrupt at line 2 (R453). -/
theorem test_V60_19_stat :
    let t := ((((atDot 1 455 .hblank).busWrite 0xFF45 0x02).busWrite 0xFF41 0x40).advance 1)
    t.busRead 0xFF41 = 0xC6 ∧ t.busRead 0xFF0F = 0xE2 := by
  decide +kernel

/-- V60.20: the mode 0 interrupt at dot 252 (R453). -/
theorem test_V60_20_stat :
    let t := (((atDot 0 251 .drawPixels).busWrite 0xFF41 0x08).advance 1)
    t.busRead 0xFF41 = 0x8C ∧ t.busRead 0xFF0F = 0xE2 := by
  decide +kernel

/-- V60.21: with the LCD off the PPU does not move (R455). -/
theorem test_V60_21_lcd_off :
    let t := ((zeroCart.busWrite 0xFF40 0x11).advance 10)
    t.busRead 0xFF44 = 0x00 ∧ t.busRead 0xFF41 = 0x80 ∧ t.ppu.dot = 0 := by
  decide +kernel

/-- One tile, its leftmost pixel of colour 3, at the top left of the map, BGP the identity, and an object with that tile at
screen column `x - 8`. -/
def oneTile (objX attr : Byte) : State :=
  let s := pokes (pokes (pokes zeroCart 0x8010 [0x80, 0x80]) 0x9800 [0x01]) 0xFE00 [16, objX, 1, attr]
  (s.busWrite 0xFF47 0xE4).busWrite 0xFF40 0x93

/-- R457: the two bit planes of the leftmost pixel give colour 3, and BGP 0xE4 maps it to shade 3; the next is 0. -/
theorem test_background_pixel :
    (oneTile 0 0).bgColour 0 = 3 ∧ (oneTile 0 0).ppu.bgShade 3 = 3 ∧ (oneTile 0 0).bgColour 1 = 0 := by
  decide +kernel

/-- R460: an object's leftmost pixel at column 4 takes its palette's shade 1 (OBP1 = 0x40) over background colour 0. -/
theorem test_object_pixel :
    let s := (oneTile 12 0x10).busWrite 0xFF49 0x40
    s.pixel s.drawOrder 4 = 1 ∧ s.pixel s.drawOrder 5 = 0 := by
  decide +kernel

/-- R460: with attribute bit 7 and a background colour other than 0, the background shade stays. -/
theorem test_object_behind_background :
    let s := (oneTile 8 0x90).busWrite 0xFF49 0x40
    s.pixel s.drawOrder 0 = 3 := by
  decide +kernel

/-- R460: attribute bit 5 flips the columns. -/
theorem test_object_flip :
    let s := (oneTile 12 0x30).busWrite 0xFF49 0x40
    s.pixel s.drawOrder 11 = 1 ∧ s.pixel s.drawOrder 4 = 0 := by
  decide +kernel

/-! ### The bus, the mapper, loading and the host -/

/-- The 4-bank MBC1 image of 95_test_vectors.md: byte 0 of bank b is b. -/
def fourBanks (ramSize : Nat) : State :=
  { State.reset with cart := some ⟨.mbc1, 65536, [(0x0147, 1), (0x4000, 1), (0x8000, 2), (0xC000, 3)], ramSize, 0⟩ }

/-- V20.1 to V20.4: bank 1 after reset, bank 2, bank 0 selects 1, bank 6 of 4 wraps to 2 (R96, R97). -/
theorem test_V20_banks :
    (fourBanks 0).busRead 0x4000 = 1 ∧ ((fourBanks 0).busWrite 0x2000 2).busRead 0x4000 = 2 ∧
    ((fourBanks 0).busWrite 0x2000 0).busRead 0x4000 = 1 ∧ ((fourBanks 0).busWrite 0x3FFF 6).busRead 0x4000 = 2 := by
  decide +kernel

/-- V20.5: enabled cartridge RAM reads back (R98). -/
theorem test_V20_5_ram :
    (((fourBanks 8192).busWrite 0x0000 0x0A).busWrite 0xA000 0x77).busRead 0xA000 = 0x77 := by
  decide +kernel

/-- V20.6: disabled cartridge RAM reads SENTINEL (R66). -/
theorem test_V20_6_ram : ((fourBanks 8192).busWrite 0xA000 0x77).busRead 0xA000 = 0xFF := by decide +kernel

/-- V20.7: a write to the echo is seen in WRAM (R68). -/
theorem test_V20_7_echo : (zeroCart.busWrite 0xE010 0x5A).busRead 0xC010 = 0x5A := by decide +kernel

/-- V20.8: an unnamed I/O address is storage (R71). -/
theorem test_V20_8_unnamed : (zeroCart.busWrite 0xFF4C 0x5A).busRead 0xFF4C = 0x5A := by decide +kernel

/-- V20.9: OAM DMA from 0xC000 (R436). -/
theorem test_V20_9_dma :
    ((pokes zeroCart 0xC09F [0x42]).busWrite 0xFF46 0xC0).busRead 0xFE9F = 0x42 := by
  decide +kernel

/-- V70.2: the I/O reads after Reset, in address order (R38, R75). -/
theorem test_V70_2_reads :
    [0xFF00, 0xFF01, 0xFF02, 0xFF04, 0xFF05, 0xFF06, 0xFF07, 0xFF0F, 0xFF10, 0xFF40, 0xFF41, 0xFF42, 0xFF43, 0xFF44,
     0xFF45, 0xFF46, 0xFF47, 0xFF48, 0xFF49, 0xFF4A, 0xFF4B, 0xFF50, 0xFFFF].map zeroCart.busRead =
    [0xCF, 0x00, 0x7E, 0xAB, 0x00, 0x00, 0xF8, 0xE1, 0x00, 0x91, 0x86, 0x00, 0x00, 0x00,
     0x00, 0xFF, 0xFC, 0xFF, 0xFF, 0x00, 0x00, 0xFF, 0x00] := by
  decide +kernel

/-- V30.2 and V30.3: the truncated walk and the whole one, as (address, opcode, operands) (R161, R162). -/
theorem test_V30_2_walk :
    let s := { zeroCart with cart := some ⟨.romOnly, 32768, [(1, 0x3E), (2, 0x12), (3, 0xCB), (4, 0x37), (5, 0xC3)], 0, 0⟩ }
    (s.disassemble 0 7).map (fun r => (r.addr, r.opcode, r.operands)) =
      [(0, 0x00, []), (1, 0x3E, [0x12]), (3, 0xCB, [0x37])] ∧
    (s.disassemble 0 8).map (fun r => (r.addr, r.opcode, r.operands)) =
      [(0, 0x00, []), (1, 0x3E, [0x12]), (3, 0xCB, [0x37]), (5, 0xC3, [0x00, 0x00])] := by
  decide +kernel

/-- The walk's entries: a base entry with its operand, the CB entry of the byte after 0xCB, and a little-endian address (R143,
R161; R142's cells 3E, CB 37 and C3). -/
theorem test_walk_entries :
    let s := { zeroCart with cart := some ⟨.romOnly, 32768, [(1, 0x3E), (2, 0x12), (3, 0xCB), (4, 0x37), (5, 0xC3), (7, 0x80)], 0, 0⟩ }
    [1, 3, 5].map s.disEntry = [.ld_a_n8 0x12, .swap_a, .jp_a16 0x8000] := by
  decide +kernel

/-- V30.5 and V30.6: the empty range, and the byte of IE (R73, R160). -/
theorem test_V30_6_walk :
    (zeroCart.disassemble 0x1234 0x1234).length = 0 ∧
    (({ zeroCart with ie := 0x1F } : State).disassemble 0xFFFF 0x10000).map (fun r => (r.addr, r.opcode)) =
      [(0xFFFF, 0x1F)] := by
  decide +kernel

/-- The zero image at 0x0102 with the breakpoint of the vectors B1 to B8. -/
def broken : State :=
  { zeroCart with breakpoints := [⟨0x0102, none⟩], regs := { zeroCart.regs with pc := 0x0102 } }

/-- B3: the breakpoint pauses the CPU at no cost (R153). -/
theorem test_B3_breakpoint :
    stepGives broken id 0 [] = true ∧ stepThen broken (fun t => t.runState == .breakpointPaused) = true := by
  constructor <;> decide +kernel

/-- B5: Step runs the NOP at the breakpoint once and sets the host pause (R480). -/
theorem test_B5_step :
    (match ({ broken with runState := .breakpointPaused, host := { HostSide.initial with running := some .headless } } :
        State).stepOnce with
    | .ok (.next t) => t.regs.pc == 0x0103 && t.runState == .running && t.host.paused && t.cycles == 4
    | _ => false) = true := by
  decide +kernel

/-- B7: removing index 1 of a sequence of one fails (R481). -/
theorem test_B7_remove : (broken.removeBreakpoint 1).isOk = false := by decide +kernel

/-- B8: Reset keeps the breakpoint (R520). -/
theorem test_B8_reset : broken.hostReset.breakpoints = [⟨0x0102, none⟩] ∧ broken.hostReset.regs.pc = 0x0100 := by
  decide +kernel

/-- I13, I14: an unreadable file and an unsupported type byte are refused (R90, R91); Start needs a cartridge (V70.6). -/
theorem test_load_refused :
    (State.reset.loadFromFile none).isOk = false ∧
    (State.reset.loadFromFile (some (List.replicate 0x147 0x00 ++ [0x05]))).isOk = false ∧
    (State.reset.start .headless).isOk = false := by
  decide +kernel

/-! ### Witnesses: the hypotheses of each statement are met together -/

/-- Whether an instruction completes in a state with a property of the next state. -/
def execThen (i : Instr) (s : State) (p : State → Bool) : Bool :=
  match exec i s with
  | .next t => p t
  | _ => false

/-- A result that passes a test of its next state is a next state. -/
theorem next_of_test {r : Result} {p : State → Bool}
    (h : (match r with | .next t => p t | _ => false) = true) : ∃ t, r = .next t ∧ p t = true := by
  match r, h with
  | .next t, h => exact ⟨t, rfl, h⟩

theorem test_witness_DecodeOfEncode : (Instr.ld_hl_n16 0xFFFF).wellFormed = true := by decide

theorem test_witness_EncodeOfDecode : decode [0xC7, 0x12] = .ok (.rst_00h, [0x12]) := by decide

theorem test_witness_DecodeIsTotal :
    skip 0xCD ≤ [0x00, 0x00].length ∧ [0x00].length < skip 0xCD ∧ skip 0x00 ≤ ([] : List Byte).length := by
  decide

theorem test_witness_RegisterFile : Regs.postBoot.f = flagByte true false true true := by decide

theorem test_witness_BitOperations :
    (∀ w : Byte, ∀ k, k < 8 → (w &&& 0xFE).getLsbD k = (w.getLsbD k && decide (k ≠ BitNo.n0.toNat))) ∧
    (∀ w : Byte, ∀ k, k < 8 → (w ||| 0x80).getLsbD k = (w.getLsbD k || decide (k = BitNo.n7.toNat))) := by
  decide +kernel

/-- Each clause: an instruction that changes the field. -/
theorem test_witness_WritersOfControlState :
    execThen .di { zeroCart with ime := true } (fun t => t.ime != true) = true ∧
    execThen .ei zeroCart (fun t => t.eiPending != false) = true ∧
    execThen .halt zeroCart (fun t => t.runState != .running) = true ∧
    execThen .halt { zeroCart with ie := 0x01 } (fun t => t.haltBug != false) = true ∧
    execThen .reti zeroCart (fun t => t.regs.sp != zeroCart.regs.sp) = true := by
  refine ⟨?_, ?_, ?_, ?_, ?_⟩ <;> decide +kernel

theorem test_witness_StoreFrame :
    zeroCart.storeReaches 0xC000 0xC001 = false ∧ zeroCart.storeReaches 0xFF04 0xFF06 = false ∧
    zeroCart.storeReaches 0x2000 0xC000 = false ∧
    (0x8000 ≤ (0x8000 : Word).toNat ∧ (0x9FFF : Word).toNat < 0xA000) ∧
    (0xC000 ≤ (0xC000 : Word).toNat ∧ (0xFEFF : Word).toNat < 0xFF00) ∧
    (0xFF80 ≤ (0xFF80 : Word).toNat ∧ (0xFFFE : Word).toNat < 0xFFFF) := by
  decide +kernel

/-- Every group of the statement: the instruction completes, and the byte at 0xFFFE is not reached. -/
theorem test_witness_StoringInstructionsFrame :
    let s : State := { zeroCart with regs := { zeroCart.regs with b := 0xC1, d := 0xC2, h := 0xC0, sp := 0xDFFE } }
    ([.ld_mhl_b, .ld_mhl_n8 0x12, .ld_mhli_a, .ld_mhld_a, .inc_mhl, .dec_mhl, .swap_mhl, .res_0_mhl, .set_7_mhl].all
      fun i => execThen i s fun _ => true) = true ∧
    ([s.regs.hl, s.regs.bc, s.regs.de, 0xFF00, 0xFF80].all fun a => !s.storeReaches a 0xFFFE) = true ∧
    ([.ld_mbc_a, .ld_mde_a, .ld_ma16_a 0xC300, .ldh_ma8_a 0x80, .ld_mc_a, .ld_ma16_sp 0xC300, .push_bc,
      .call_a16 0x0150, .call_z_a16 0x0150, .rst_38h].all fun i => execThen i s fun _ => true) = true ∧
    ([0xC300, 0xC301, 0xFF13, s.regs.sp - 1, s.regs.sp - 2].all fun a =>
      !s.storeReaches a 0xFFFE && !(s.cpuWrite 0xDFFD 0xDF).storeReaches a 0xFFFE) = true := by
  refine ⟨?_, ?_, ?_, ?_⟩ <;> decide +kernel

/-- The boundary addresses of each clause, and what the clause says there. -/
theorem test_witness_StorageReadsBack :
    ([0x8000, 0x9FFF, 0xC000, 0xDFFF, 0xE000, 0xFDFF, 0xFE00, 0xFE9F, 0xFF80, 0xFFFE, 0xFFFF].all fun a =>
      (zeroCart.busWrite a 0x5A).busRead a == 0x5A) = true ∧
    ([0xC000, 0xDDFF].all fun a => (zeroCart.busWrite a 0x5A).busRead (a + 0x2000) == 0x5A) = true ∧
    ([0xE000, 0xFDFF].all fun a => (zeroCart.busWrite a 0x5A).busRead (a - 0x2000) == 0x5A) = true ∧
    ([0xFEA0, 0xFEFF].all fun a => zeroCart.busRead a == 0xFF) = true := by
  refine ⟨?_, ?_, ?_, ?_⟩ <;> decide +kernel

/-- The boundary addresses of the audio clause and of the unnamed clause, for reads and for writes. -/
theorem test_witness_IoRegisters :
    (0xFF10 ≤ (0xFF10 : Word).toNat ∧ (0xFF3F : Word).toNat ≤ 0xFF3F) ∧
    ([0xFF03, 0xFF08, 0xFF0E, 0xFF4C, 0xFF4F, 0xFF51, 0xFF7F].all fun a : Word =>
      decide (a.toNat = 0xFF03 ∨ (0xFF08 ≤ a.toNat ∧ a.toNat ≤ 0xFF0E) ∨ (0xFF4C ≤ a.toNat ∧ a.toNat ≤ 0xFF4F) ∨
        (0xFF51 ≤ a.toNat ∧ a.toNat ≤ 0xFF7F)) && (ioRegAt a == .unnamed)) = true := by
  decide +kernel

/-- A blocked access in each region and mode, and an access that is not blocked. -/
theorem test_witness_AccessLock :
    let s (m : PpuMode) : State :=
      { zeroCart with params := { Params.default with vramLock := true }, ppu := { Ppu.reset with mode := m } }
    (s .drawPixels).cpuRead 0x8000 = 0xFF ∧ (s .drawPixels).cpuRead 0x9FFF = 0xFF ∧
    (s .searchOam).cpuRead 0xFE00 = 0xFF ∧ (s .drawPixels).cpuRead 0xFE9F = 0xFF ∧
    (s .searchOam).cpuRead 0x9FFF = 0x00 ∧ (s .hblank).cpuRead 0xFE00 = 0x00 := by
  decide +kernel

theorem test_witness_RomOnlyMapper :
    (∃ c, zeroCart.cart = some c ∧ c.mapper = .romOnly) ∧ zeroCart.bootMapped = false ∧ (0x7FFF : Word).toNat < 0x8000 ∧
    State.reset.cart = none ∧ 0xA000 ≤ (0xA000 : Word).toNat ∧ (0xBFFF : Word).toNat < 0xC000 :=
  ⟨⟨_, rfl, rfl⟩, rfl, by decide, rfl, by decide, by decide⟩

/-- Each clause: the banked read at both windows, RAM enabled and disabled, and the four control ranges at their bounds. -/
theorem test_witness_Mbc1Mapper :
    (∃ c, (fourBanks 32768).cart = some c ∧ c.mapper = .mbc1 ∧ 0 < c.ramSize) ∧ (fourBanks 0).bootMapped = false ∧
    ((fourBanks 32768).busWrite 0x0000 0x0A).mbc.ramEn = true ∧ (fourBanks 32768).mbc.ramEn = false ∧
    ((fourBanks 0).busWrite 0x1FFF 0x1A).mbc = ⟨true, 1, 0, false⟩ ∧
    ((fourBanks 0).busWrite 0x3FFF 0x20).mbc = ⟨false, 1, 0, false⟩ ∧
    ((fourBanks 0).busWrite 0x4000 0xFE).mbc = ⟨false, 1, 2, false⟩ ∧
    ((fourBanks 0).busWrite 0x7FFF 0x03).mbc = ⟨false, 1, 0, true⟩ :=
  ⟨⟨_, rfl, rfl, by decide⟩, rfl, by decide +kernel, rfl, by decide +kernel, by decide +kernel, by decide +kernel,
    by decide +kernel⟩

/-- A launch in BOOT_MODE `boot_rom`. -/
def booting : State := State.powerOn { Params.default with bootMode := .bootRom [(0x00FF, 0x42)] }

theorem test_witness_BootOverlay :
    booting.params.bootMode = .bootRom [(0x00FF, 0x42)] ∧ booting.bootMapped = true ∧ (0x00FF : Word).toNat < 0x100 ∧
    booting.busRead 0x00FF = 0x42 ∧ (booting.busWrite 0xFF50 1).bootMapped = false ∧
    (booting.busWrite 0xFF50 0).bootMapped = true ∧ 0x100 ≤ (0x0100 : Word).toNat ∧ ∃ t, step booting = .next t ∧ t.bootMapped = true :=
  ⟨rfl, rfl, by decide, by decide +kernel, by decide +kernel, by decide +kernel, by decide,
    next_of_test (p := fun t => t.bootMapped) (by decide +kernel)⟩

theorem test_witness_MemoryCanonical :
    Memory.wf [(0x8000, 1), (0xFFFE, 2)] = true ∧ (Memory.write [(0x8000, 1)] 0xFFFE 2).wf = true := by
  decide

theorem test_witness_StackRoundTrip :
    [(0xC002 : Word), 0xE000].all (fun sp =>
      let s : State := { zeroCart with regs := { zeroCart.regs with sp := sp } }
      (s.push16 0x1234).popValue == 0x1234) = true := by
  decide +kernel

/-- The state of the witnesses for the Update: `INC A` at 0xC000. -/
def atIncA : State := codeAt 0xC000 [0x3C]

theorem test_witness_StepRunsDecoded :
    atIncA.runState = .running ∧ (atIncA.ime = false ∨ atIncA.pending = 0) ∧ atIncA.breakpointHit = false ∧
    atIncA.haltBug = false ∧
    decode [atIncA.cpuRead atIncA.regs.pc, atIncA.cpuRead (atIncA.regs.pc + 1), atIncA.cpuRead (atIncA.regs.pc + 2)] =
      .ok (.inc_a, [0x00, 0x00]) ∧
    ∃ t, exec .inc_a
        { atIncA with
          bpResume := false, ime := atIncA.ime || atIncA.eiPending, eiPending := false
          regs := { atIncA.regs with pc := atIncA.regs.pc + BitVec.ofNat 16 (3 - 2) } } = .next t :=
  ⟨rfl, .inl rfl, by decide +kernel, rfl, by decide +kernel, ⟨_, rfl⟩⟩

/-- Each clause has a state. -/
theorem test_witness_UpdateWithoutInstruction :
    ({ broken with runState := .breakpointPaused } : State).runState = .breakpointPaused ∧
    (let s : State := { zeroCart with runState := .halted }
     s.ie.setWidth 5 &&& s.ifBits = 0) ∧
    (let s : State := { zeroCart with runState := .halted, ie := 0x01 }
     s.ie.setWidth 5 &&& s.ifBits ≠ 0) ∧
    broken.runState = .running ∧ broken.ime = false ∧ broken.bpResume = false ∧
    ∃ b ∈ broken.breakpoints, b.addr = broken.regs.pc ∧ b.cond = none :=
  ⟨rfl, by decide, by decide, rfl, rfl, rfl, ⟨_, List.mem_singleton.mpr rfl, rfl, rfl⟩⟩

theorem test_witness_DispatchEntry :
    let s : State := { zeroCart with ime := true, ie := 0x14, ifBits := 0b11100 }
    s.runState = .running ∧ s.ime = true ∧ s.ie.setWidth 5 &&& s.ifBits ≠ 0 ∧ lowestSource s.pending = 2 := by
  decide

theorem test_witness_EiDelay :
    let s (code : Byte) : State := { codeAt 0xC000 [code] with eiPending := true }
    (s 0xF3).runState = .running ∧ (s 0xF3).ime = false ∧ (s 0xF3).eiPending = true ∧ (s 0xF3).breakpointHit = false ∧
    (s 0xF3).haltBug = false ∧ (s 0xF3).cpuRead (s 0xF3).regs.pc = 0xF3 ∧ (s 0x00).cpuRead (s 0x00).regs.pc = 0x00 := by
  decide +kernel

theorem test_witness_FetchedBytes :
    (atIncA.haltBug = false ∧ ({ atIncA with haltBug := true } : State).haltBug = true) ∧
    ∀ k : Nat, k ≤ skip (atIncA.cpuRead atIncA.regs.pc) → atIncA.locked (atIncA.regs.pc + BitVec.ofNat 16 k) = false :=
  ⟨by decide +kernel, fun _ _ => rfl⟩

theorem test_witness_StepAlwaysAnswers :
    step { broken with runState := .breakpointPaused } = .next { broken with runState := .breakpointPaused } := rfl

theorem test_witness_HostSideInvisible : ∃ t, step atIncA = .next t ∧ t.cycles = 4 := by
  obtain ⟨t, h, ht⟩ := next_of_test (r := step atIncA) (p := fun t => t.cycles == 4) (by decide +kernel)
  exact ⟨t, h, by simpa using ht⟩

/-- The enabled clause with the count ending exactly at 0xFF, and the disabled clause. -/
theorem test_witness_TimerCounts :
    (timed 0x0000 5 0xFE 0x00).timer.tac.getLsbD 2 = true ∧
    (timed 0x0000 5 0xFE 0x00).timer.tima.toNat + ((0x0000 : Word).toNat % 16 + 16) / 16 ≤ 0xFF ∧
    ((timed 0x0000 5 0xFE 0x00).advance 16).timer.tima = 0xFF ∧ (timed 0x0000 1 0xFE 0x00).timer.tac.getLsbD 2 = false := by
  decide +kernel

theorem test_witness_DevicesOnlyRequest : zeroCart.ifBits.getLsbD 0 = true := by decide

/-- The framebuffers of the witnesses below are whole. -/
theorem blank_sized : Frame.blank.sized := by
  refine ⟨by decide +kernel, ?_⟩
  intro row h
  rw [List.eq_of_mem_replicate h]
  decide +kernel

/-- A PPU at a position, in that position's mode, keeps the PPU invariant. -/
theorem atDot_inv {ly dot : Nat} {m : PpuMode} (h : ly < 154 ∧ dot < 456 ∧ m = modeAt ly dot) : (atDot ly dot m).ppu.Inv where
  ly_range := h.1
  dot_range := h.2.1
  mode_on := fun _ => h.2.2
  window_on := fun _ => Nat.zero_le _
  window_range := Nat.zero_le _
  off := fun h => absurd h (show ¬(0x91 : Byte).getLsbD 7 = false by decide)
  back_sized := blank_sized
  front_sized := blank_sized

theorem test_witness_PpuPositionAdvances :
    (atDot 153 455 .vblank).ppu.Inv ∧ (atDot 153 455 .vblank).ppu.lcdOn = true :=
  ⟨atDot_inv (by decide), by decide⟩

/-- No frame published, and one published. -/
theorem test_witness_FramesPublished :
    (atDot 143 455 .hblank).ppu.Inv ∧ (atDot 143 455 .hblank).ppu.lcdOn = true ∧
    ((atDot 143 455 .hblank).advance 0).ppu.frames = (atDot 143 455 .hblank).ppu.frames ∧
    ((atDot 143 455 .hblank).advance 1).ppu.frames ≠ (atDot 143 455 .hblank).ppu.frames ∧
    ((atDot 143 455 .hblank).advance (0 + 1)).ppu.frames ≠ ((atDot 143 455 .hblank).advance 0).ppu.frames :=
  ⟨atDot_inv (by decide), by decide, rfl, by decide +kernel, by decide +kernel⟩

theorem test_witness_StatRisingEdge : (atDot 0 0 .searchOam).ppu.lcdOn = true := by decide

/-- Bit 7 kept, cleared and set. -/
theorem test_witness_LcdOnAndOff :
    zeroCart.ppu.lcdc.getLsbD 7 = (0x80 : Byte).getLsbD 7 ∧ zeroCart.ppu.lcdc.getLsbD 7 = true ∧
    (0x11 : Byte).getLsbD 7 = false ∧ (zeroCart.busWrite 0xFF40 0x11).ppu.lcdc.getLsbD 7 = false := by
  decide +kernel

/-- The drawing dot of the last visible line, and a dot that draws nothing. -/
theorem test_witness_LineRenderedAtHblank :
    (atDot 143 251 .drawPixels).ppu.Inv ∧ (atDot 143 251 .drawPixels).ppu.lcdOn = true ∧
    ((atDot 143 251 .drawPixels).ppu.ly < 144 ∧ (atDot 143 251 .drawPixels).ppu.dot = 251) ∧
    (atDot 143 250 .drawPixels).ppu.Inv ∧
    ¬((atDot 143 250 .drawPixels).ppu.ly < 144 ∧ (atDot 143 250 .drawPixels).ppu.dot = 251) ∧ (159 : Nat) < 160 :=
  ⟨atDot_inv (by decide), by decide, by decide, atDot_inv (by decide), by decide, by decide⟩

theorem test_witness_BackgroundPixel :
    (159 : Nat) < 160 ∧ (oneTile 0 0).ppu.lcdc.getLsbD 0 = true ∧
    ((oneTile 0 0).busWrite 0xFF40 0x80).ppu.lcdc.getLsbD 0 = false := by
  decide +kernel

theorem test_witness_ObjectSelection : (oneTile 12 0).lineObjects = [⟨16, 12, 1, 0⟩] := by decide +kernel

theorem test_witness_ResetForgets :
    (atIncA.params = zeroCart.params ∧ atIncA.cart = zeroCart.cart ∧ atIncA.breakpoints = zeroCart.breakpoints ∧
      atIncA.host = zeroCart.host) ∧
    atIncA.params.bootMode = .skip ∧ booting.params.bootMode = .bootRom [(0x00FF, 0x42)] := by
  decide +kernel

/-- A ROM-only file and an MBC1 file load under MAPPER auto. -/
theorem test_witness_LoadedCartridge :
    State.reset.params.mapper = .auto ∧ (State.reset.loadFromFile (some [0x3C])).isOk = true ∧
    (State.reset.loadFromFile (some (List.replicate 0x147 0x00 ++ [0x01]))).isOk = true := by
  refine ⟨rfl, ?_, ?_⟩ <;> decide +kernel

theorem test_witness_BreakpointControl :
    let s : State :=
      { broken with runState := .breakpointPaused, host := { HostSide.initial with running := some .headless } }
    (0 < s.breakpoints.length ∧ s.breakpoints.length ≤ 1) ∧ s.isRunning = true ∧ s.runState = .breakpointPaused ∧ s.ime = false := by
  decide

/-- The empty walk, a record and the next one, and the last record. -/
theorem test_witness_DisassemblyWalk :
    let out := (codeAt 0xC000 [0x3E, 0x12, 0x3C]).disassemble 0xC000 0xC003
    out.map (fun r => (r.addr, r.length)) = [(0xC000, 2), (0xC002, 1)] ∧ zeroCart.disassemble 0 0 = [] := by
  constructor
  · decide +kernel
  · rfl

theorem test_witness_ResetHasInvariant :
    ∀ c, zeroCart.cart = some c → c.rom.wf = true ∧ ∀ cell ∈ c.rom, cell.1 < c.romLen := by
  rintro _ ⟨⟩
  exact ⟨rfl, fun _ h => absurd h List.not_mem_nil⟩

/-- A running state with the invariant and code in WRAM, from which a step answers. -/
theorem test_witness_StepKeepsInvariant : atIncA.Inv ∧ ∃ t, step atIncA = .next t := by
  refine ⟨⟨by decide +kernel, by decide +kernel, ⟨rfl, fun _ h => absurd h List.not_mem_nil, ?_⟩, by decide +kernel,
    by decide +kernel, by decide +kernel, ⟨by decide, by decide, fun _ => by decide, fun _ => Nat.zero_le _, Nat.zero_le _,
      fun h => absurd h (by decide), blank_sized, blank_sized⟩, fun h => ?_, fun h => ?_, fun h => ?_⟩, ?_⟩
  · rintro _ ⟨⟩
    exact ⟨rfl, fun _ h => absurd h List.not_mem_nil⟩
  · exact absurd h (by decide)
  · exact absurd h (by decide)
  · exact absurd h (by decide)
  · obtain ⟨t, h, -⟩ := next_of_test (r := step atIncA) (p := fun _ => true) (by decide +kernel)
    exact ⟨t, h⟩

end Sys2Proof.Machine
end

section
/-! Every step keeps the invariant (10_state.md sections 1, 3 and 5; R83, R448, R455). The operations of the bus, the devices and the
Update are taken in turn, each with the lemma that it keeps `State.Inv`; `step_cases` puts them together. -/

namespace Sys2Proof.Machine

/-! ### The memories -/

theorem State.CartInv.congr {s t : State} (h : s.CartInv) (hr : t.cartRam = s.cartRam) (hc : t.cart = s.cart) :
    t.CartInv where
  ram_wf := by rw [hr]; exact h.ram_wf
  ram_keys := by rw [hr, hc]; exact h.ram_keys
  rom_wf := by rw [hc]; exact h.rom_wf

/-- A store at a key with storage behind it keeps the invariant (R62). -/
theorem State.Inv.store {s : State} (h : s.Inv) {k : Nat} (hk : ramKey k = true) (v : Byte) : (s.store k v).Inv :=
  { h with
    mem_wf := Memory.wf_write k v h.mem_wf
    mem_keys := fun cell hc => (Memory.mem_write hc).elim (fun e => e ▸ hk) (h.mem_keys cell)
    cart := h.cart.congr rfl rfl }

/-- Every number in the range of a RAM region is a key (R62). -/
theorem ramKey_of_holds {k : Nat} {r : Region} (hr : r = .vram ∨ r = .wram ∨ r = .oam ∨ r = .hram) (h : r.holds k) :
    ramKey k = true := by
  unfold ramKey
  rcases hr with rfl | rfl | rfl | rfl <;> simp [h.1, h.2]

theorem ramKey_of_region {a : Word} {r : Region} (hr : r = .vram ∨ r = .wram ∨ r = .oam ∨ r = .hram)
    (h : regionOf a = r) : ramKey a.toNat = true :=
  ramKey_of_holds hr (h ▸ regionOf_holds a)

/-- An echo address stands for a WRAM key (R68). -/
theorem ramKey_of_echo {a : Word} (h : regionOf a = .echo) : ramKey (a.toNat - 0x2000) = true := by
  have hecho := echo_range h
  exact ramKey_of_holds (r := .wram) (by simp) ⟨by omega, by omega⟩

/-- The audio and the unnamed bytes of the I/O window are keys (R71, R75). -/
theorem ramKey_of_io {a : Word} (h : regionOf a = .io) (hr : ioRegAt a = .audio ∨ ioRegAt a = .unnamed) :
    ramKey a.toNat = true := by
  have hk : ioRegOf (a.toNat % 256) = ioRegAt a := by rw [← toNat_loByte]; rfl
  unfold ramKey
  rcases hr with hr | hr <;> rw [hk, hr] <;> simp [io_range h]

/-- The cartridge RAM offset of an address is inside the cartridge RAM (R98). -/
theorem State.cartRamOffset_lt {s : State} {a : Word} {off : Nat} (h : s.cartRamOffset a = some off) :
    ∃ c, s.cart = some c ∧ off < c.ramSize := by
  unfold State.cartRamOffset at h
  split at h
  · cases h
  · next c hc =>
    split at h
    · cases h
    · split at h
      · next hsize =>
        simp only [Bool.and_eq_true, decide_eq_true_eq] at hsize
        exact ⟨c, hc, Option.some.inj h ▸ Nat.mod_lt _ hsize.2⟩
      · cases h

theorem State.Inv.cartRamWrite {s : State} (h : s.Inv) (a : Word) (v : Byte) : (s.cartRamWrite a v).Inv := by
  unfold State.cartRamWrite
  split
  · next off ho =>
    exact { h with
      cart :=
        { ram_wf := Memory.wf_write off v h.cart.ram_wf
          ram_keys := fun cell hc =>
            (Memory.mem_write hc).elim (fun e => by rw [e]; exact State.cartRamOffset_lt ho) (h.cart.ram_keys cell)
          rom_wf := h.cart.rom_wf } }
  · exact h

/-- A control write never leaves 0 in `bank_lo` (R96). -/
theorem Mbc.control_bankLo {m : Mbc} (h : m.bankLo ≠ 0) (a : Word) (v : Byte) : (m.control a v).bankLo ≠ 0 := by
  unfold Mbc.control
  split_ifs with _ _ hv
  · exact h
  · exact (by decide : (1 : BitVec 5) ≠ 0)
  · exact hv
  · exact h
  · exact h

theorem State.Inv.mapperWrite {s : State} (h : s.Inv) (a : Word) (v : Byte) : (s.mapperWrite a v).Inv := by
  unfold State.mapperWrite
  split
  · exact h
  · split
    · exact h
    · exact { h with cart := h.cart.congr rfl rfl, bank_lo := Mbc.control_bankLo h.bank_lo a v }

/-! ### The devices -/

/-- A change of the devices keeps the invariant when the PPU keeps its own. -/
theorem State.Inv.of_devicesOnly {s t : State} (h : s.Inv) (hd : s.DevicesOnly t) (hp : t.ppu.Inv) : t.Inv := by
  rw [show t = _ from hd]
  exact { h with cart := h.cart.congr rfl rfl, ppu := hp }

theorem State.Inv.timerUpdate {s : State} (h : s.Inv) (t : Timer) : (s.timerUpdate t).Inv :=
  h.of_devicesOnly (State.timerUpdate_devicesOnly s t) (by rw [State.timerUpdate_ppu]; exact h.ppu)

/-- With the LCD on the STAT line is free. -/
theorem Ppu.Inv.setStatLine {p : Ppu} (h : p.Inv) (hon : p.lcdOn = true) (b : Bool) :
    ({ p with statLine := b } : Ppu).Inv :=
  { h with off := fun hoff => absurd (hon.symm.trans hoff) (by decide) }

theorem State.writeLcdc_devicesOnly (s : State) (v : Byte) : s.DevicesOnly (s.writeLcdc v) := by
  obtain ⟨f, ly, dot, mode, w, l, e⟩ := State.writeLcdc_eq s v
  rw [e]; rfl

/-- Switching the LCD off restarts the frame in mode 0 (R455). -/
theorem Ppu.Inv.switchOff {p : Ppu} (h : p.Inv) {v : Byte} (hv : v.getLsbD 7 = false) :
    ({ p with lcdc := v, ly := 0, dot := 0, mode := .hblank, statLine := false } : Ppu).Inv :=
  { h with
    ly_range := Nat.zero_lt_succ _
    dot_range := Nat.zero_lt_succ _
    mode_on := fun hon => absurd (hon.symm.trans hv) (by decide)
    window_on := fun hon => absurd (hon.symm.trans hv) (by decide)
    off := fun _ => ⟨rfl, rfl, rfl, rfl⟩ }

/-- Switching the LCD on restarts the frame in mode 2 (R455). -/
theorem Ppu.Inv.switchOn {p : Ppu} (h : p.Inv) {v : Byte} (hv : v.getLsbD 7 = true) :
    ({ p with lcdc := v, ly := 0, dot := 0, mode := .searchOam, winLine := 0 } : Ppu).Inv :=
  { h with
    ly_range := Nat.zero_lt_succ _
    dot_range := Nat.zero_lt_succ _
    mode_on := fun _ => rfl
    window_on := fun _ => Nat.zero_le _
    window_range := Nat.zero_le _
    off := fun hoff => absurd (hv.symm.trans hoff) (by decide) }

/-- A write to LCDC that keeps bit 7 moves nothing (R440). -/
theorem Ppu.Inv.setLcdc {p : Ppu} (h : p.Inv) {v : Byte} (hv : v.getLsbD 7 = p.lcdOn) :
    ({ p with lcdc := v } : Ppu).Inv :=
  { h with
    mode_on := fun hon => h.mode_on (hv.symm.trans hon)
    window_on := fun hon => h.window_on (hv.symm.trans hon)
    off := fun hoff => h.off (hv.symm.trans hoff) }

theorem State.writeLcdc_ppuInv {s : State} (h : s.ppu.Inv) (v : Byte) : (s.writeLcdc v).ppu.Inv := by
  unfold State.writeLcdc
  split_ifs with hoff hon
  · simp only [Bool.and_eq_true, Bool.not_eq_true'] at hoff
    exact h.switchOff hoff.2
  · simp only [Bool.and_eq_true] at hon
    rw [State.updateStatLine_ppu]
    exact (h.switchOn hon.2).setStatLine hon.2 _
  · refine h.setLcdc ?_
    cases hv : v.getLsbD 7 <;> cases hold : s.ppu.lcdOn
    case false.true => exact absurd (by rw [hold, hv]; rfl) hoff
    case true.false => exact absurd (by rw [hold, hv]; rfl) hon
    all_goals rfl

theorem State.Inv.writeLcdc {s : State} (h : s.Inv) (v : Byte) : (s.writeLcdc v).Inv :=
  h.of_devicesOnly (State.writeLcdc_devicesOnly s v) (State.writeLcdc_ppuInv h.ppu v)

/-- The DMA copy stores in OAM only (R436). -/
theorem State.Inv.dmaFold (v : Byte) (l : List Nat) (hl : ∀ i ∈ l, i < 160) {s : State} (h : s.Inv) :
    (l.foldl (fun t i => t.dmaByte v i) s).Inv := by
  induction l generalizing s with
  | nil => exact h
  | cons i rest ih =>
    rw [List.foldl_cons]
    have hi : i < 160 := hl i List.mem_cons_self
    have hk : ramKey (0xFE00 + i) = true := ramKey_of_holds (r := .oam) (by simp) ⟨by omega, by omega⟩
    exact ih (fun j hj => hl j (List.mem_cons_of_mem i hj)) (h.store hk _)

theorem State.Inv.writeDma {s : State} (h : s.Inv) (v : Byte) : (s.writeDma v).Inv := by
  have hdma : ({ s with ppu := { s.ppu with dma := v } } : State).Inv := h.of_devicesOnly rfl { h.ppu with }
  exact hdma.dmaFold v _ fun i hi => List.mem_range.1 hi

/-! ### The bus -/

theorem State.Inv.ioRegWrite {s : State} (h : s.Inv) {a : Word} (ha : regionOf a = .io) (v : Byte) :
    (s.ioRegWrite (ioRegAt a) a v).Inv := by
  have cart : ∀ t : State, t.cartRam = s.cartRam → t.cart = s.cart → t.CartInv := fun _ => h.cart.congr
  cases hr : ioRegAt a
  case audio => exact h.store (ramKey_of_io ha (.inl hr)) v
  case unnamed =>
    unfold State.ioRegWrite
    dsimp only
    split
    · exact h.store (ramKey_of_io ha (.inr hr)) v
    · exact h
  case div => exact h.timerUpdate _
  case tac => exact h.timerUpdate _
  case lcdc => exact h.writeLcdc v
  case dma => exact h.writeDma v
  case ly => exact h
  case boot =>
    dsimp only [State.ioRegWrite]
    split_ifs
    · exact h
    · exact { h with cart := cart _ rfl rfl, boot := fun hb => absurd hb Bool.false_ne_true }
  case sc =>
    have hsc : v &&& 0x81 &&& 0x7E = 0 := by rw [BitVec.and_assoc]; exact BitVec.and_zero
    exact { h with cart := cart _ rfl rfl, serial := hsc }
  case p1 | sb => exact { h with cart := cart _ rfl rfl }
  case tima | tma | intFlag => exact h.of_devicesOnly rfl h.ppu
  all_goals exact h.of_devicesOnly rfl { h.ppu with }

theorem State.Inv.busWrite {s : State} (h : s.Inv) (a : Word) (v : Byte) : (s.busWrite a v).Inv := by
  unfold State.busWrite
  cases ha : regionOf a
  case romLow | romHigh => exact h.mapperWrite a v
  case cartRam => exact h.cartRamWrite a v
  case vram | wram | oam | hram => exact h.store (ramKey_of_region (by simp) ha) v
  case echo => exact h.store (ramKey_of_echo ha) v
  case unusable => exact h
  case io => exact h.ioRegWrite ha v
  case ie => exact { h with cart := h.cart.congr rfl rfl }

/-- Every CPU store keeps the invariant. -/
theorem State.Inv.cpuWrite {s : State} (h : s.Inv) (a : Word) (v : Byte) : (s.cpuWrite a v).Inv := by
  unfold State.cpuWrite
  split_ifs
  · exact h
  · exact h.busWrite a v

/-! ### The T-cycle -/

theorem State.length_lineShades (s : State) : s.lineShades.length = Config.fbWidth := by
  unfold State.lineShades
  rw [List.length_map, List.length_range]

/-- A framebuffer with a row replaced by a whole row is whole. -/
theorem Frame.sized_set {f : Frame} (h : f.sized) (i : Nat) {row : List Shade} (hrow : row.length = Config.fbWidth) :
    Frame.sized (f.set i row) := by
  refine ⟨by rw [List.length_set]; exact h.1, fun r hr => ?_⟩
  rcases List.mem_or_eq_of_mem_set hr with hr | rfl
  · exact h.2 r hr
  · exact hrow

theorem State.renderAt_back_sized {s : State} (h : s.ppu.back.sized) (prev : PpuMode) :
    (s.renderAt prev).ppu.back.sized := by
  unfold State.renderAt
  split_ifs
  · exact Frame.sized_set h _ s.length_lineShades
  · exact h

/-- The window row counter moves by at most one, and only on the line's render (R458). -/
theorem State.renderAt_winLine_le (s : State) (prev : PpuMode) :
    (s.renderAt prev).ppu.winLine ≤ s.ppu.winLine + if prev = .drawPixels ∧ s.ppu.mode = .hblank then 1 else 0 := by
  unfold State.renderAt
  split_ifs
  · dsimp only [State.renderLine]
    split_ifs <;> omega
  · exact Nat.le_refl _

theorem Ppu.nextDot_range {p : Ppu} (h : p.Inv) : p.nextDot.ly < 154 ∧ p.nextDot.dot < 456 := by
  have := h.ly_range
  have := h.dot_range
  unfold Ppu.nextDot
  split_ifs <;> dsimp only <;> omega

theorem Ppu.linesDone_le (p : Ppu) : p.linesDone ≤ 144 := by
  unfold Ppu.linesDone
  split_ifs <;> omega

theorem modeAt_eq_drawPixels {ly dot : Nat} : modeAt ly dot = .drawPixels ↔ ly < 144 ∧ 80 ≤ dot ∧ dot < 252 := by
  unfold modeAt
  split_ifs <;> simp <;> omega

theorem modeAt_eq_hblank {ly dot : Nat} : modeAt ly dot = .hblank ↔ ly < 144 ∧ 252 ≤ dot := by
  unfold modeAt
  split_ifs <;> simp <;> omega

/-- The mode 3 to mode 0 change of a visible line is its dot 251 to 252 (R448, R449). -/
theorem Ppu.endsDrawing_iff {p : Ppu} (h : p.Inv) (hon : p.lcdOn = true) :
    p.mode = .drawPixels ∧ p.nextDot.mode = .hblank ↔ p.ly < 144 ∧ p.dot = 251 := by
  have hnext : p.nextDot.mode = modeAt p.nextDot.ly p.nextDot.dot := congrArg Ppu.mode (Ppu.nextDot_eq p)
  rw [h.mode_on hon, hnext, modeAt_eq_drawPixels, modeAt_eq_hblank]
  unfold Ppu.nextDot
  split_ifs <;> dsimp only <;> omega

/-- A dot renders a line exactly where the count of rendered lines goes up; a new frame has window row 0 (R449, R458). -/
theorem Ppu.nextDot_window {p : Ppu} (h : p.Inv) (hon : p.lcdOn = true) :
    p.nextDot.winLine + (if p.mode = .drawPixels ∧ p.nextDot.mode = .hblank then 1 else 0) ≤ p.nextDot.linesDone := by
  have hw : p.winLine ≤ p.linesDone := h.window_on hon
  simp only [Ppu.endsDrawing_iff h hon]
  unfold Ppu.linesDone at hw ⊢
  unfold Ppu.nextDot
  split_ifs at hw ⊢ <;> dsimp only at * <;> omega

/-- A dot keeps the PPU's invariant (R448 to R458). -/
theorem State.ppuTick_ppuInv {s : State} (h : s.ppu.Inv) : s.ppuTick.ppu.Inv := by
  cases hon : s.ppu.lcdOn
  · rw [State.ppuTick_of_off hon]
    exact h
  · have hnext := Ppu.nextDot_eq s.ppu
    have honNext : s.ppu.nextDot.lcdOn = true := by rw [hnext]; exact hon
    have hback : (({ s with ppu := s.ppu.nextDot } : State).renderAt s.ppu.mode).ppu.back.sized :=
      State.renderAt_back_sized (s := { s with ppu := s.ppu.nextDot }) (by rw [hnext]; exact h.back_sized) _
    have hwin := (State.renderAt_winLine_le { s with ppu := s.ppu.nextDot } s.ppu.mode).trans (Ppu.nextDot_window h hon)
    rw [State.ppuTick_ppu hon]
    exact
      { ly_range := (Ppu.nextDot_range h).1
        dot_range := (Ppu.nextDot_range h).2
        mode_on := fun _ => congrArg Ppu.mode hnext
        window_on := fun _ => hwin
        window_range := hwin.trans (Ppu.linesDone_le _)
        off := fun hoff => absurd (honNext.symm.trans hoff) (by decide)
        back_sized := hback
        front_sized := by
          dsimp only
          split_ifs
          · exact hback
          · exact h.front_sized }

theorem State.Inv.tick {s : State} (h : s.Inv) : s.timerTick.ppuTick.Inv := by
  have ht : s.timerTick.Inv := h.timerUpdate _
  exact ht.of_devicesOnly (State.ppuTick_devicesOnly _) (State.ppuTick_ppuInv ht.ppu)

/-- `Advance(n)` keeps the invariant (R154). -/
theorem State.Inv.advance {s : State} (h : s.Inv) (n : Nat) : (s.advance n).Inv :=
  State.advance_induct (P := fun s t => s.Inv → t.Inv) (fun _ => id) (fun h k => k ∘ h) (fun _ => State.Inv.tick) s n h

theorem State.Inv.charge {s : State} (h : s.Inv) (n : Nat) : (s.charge n).Inv :=
  { h with cart := h.cart.congr rfl rfl }

theorem State.Inv.spend {s : State} (h : s.Inv) (n : Nat) : (s.spend n).Inv := (h.advance n).charge n

/-! ### The Update -/

/-- The invariant of the bus part under another CPU part that has its three clauses. -/
theorem State.Inv.over {s c : State} (h : s.Inv) (hf : c.regs.f &&& 0x0F = 0)
    (hl : c.runState = .locked → s.params.illegalPolicy = .lock) (hb : c.haltBug = true → s.params.haltBug = true) :
    (c.over s).Inv :=
  { h with cart := h.cart.congr rfl rfl, flags_low := hf, locked_policy := hl, halt_bug := hb }

theorem State.Inv.setRunState {s : State} (h : s.Inv) {r : RunState} (hr : r ≠ .locked) :
    ({ s with runState := r } : State).Inv :=
  { h with cart := h.cart.congr rfl rfl, locked_policy := fun e => absurd e hr }

/-- The bus part that an instruction's stores leave has the invariant, under the same parameters. -/
theorem State.Inv.of_stored {s t : State} (h : s.Inv) (hs : s.Stored t) :
    ∃ u, t = t.over u ∧ u.Inv ∧ u.params = s.params := by
  rcases hs with e | ⟨a, v, e⟩ | ⟨a, v, b, w, e⟩
  · exact ⟨s, e, h, rfl⟩
  · exact ⟨_, e, h.cpuWrite a v, State.cpuWrite_params s a v⟩
  · exact ⟨_, e, (h.cpuWrite a v).cpuWrite b w, by simp⟩

/-- An instruction keeps the invariant: its stores keep the bus part, and its CPU part obeys the launch's policies. -/
theorem State.Inv.of_completes {s t : State} (h : s.Inv) (hc : s.CpuStep t) (hs : s.Stored t) : t.Inv := by
  obtain ⟨u, e, hu, hp⟩ := h.of_stored hs
  have hlocked : t.runState = .locked → u.params.illegalPolicy = .lock := fun hl => by
    rw [hp]
    rcases hc.run with hr | hr | ⟨_, hpolicy⟩
    · exact h.locked_policy (hr.symm.trans hl)
    · exact absurd (hr.symm.trans hl) (by decide)
    · exact hpolicy
  have hbug : t.haltBug = true → u.params.haltBug = true := fun hb => by
    rw [hp]
    rcases hc.bug with hr | ⟨_, hpolicy⟩
    · exact h.halt_bug (hr.symm.trans hb)
    · exact hpolicy
  rw [e]
  exact hu.over (hc.flags h.flags_low) hlocked hbug

theorem State.Inv.beginInstr {s : State} (h : s.Inv) : s.beginInstr.Inv := { h with cart := h.cart.congr rfl rfl }

theorem State.Inv.fetch {s : State} (h : s.Inv) : s.fetch.2.Inv := by
  rw [State.fetch_snd]
  exact { h with cart := h.cart.congr rfl rfl, halt_bug := fun e => absurd e Bool.false_ne_true }

theorem State.Inv.dispatch {s : State} (h : s.Inv) (i : Nat) : (s.dispatch i).Inv := by
  have hcleared : ({ s with ifBits := s.ifBits &&& ~~~(1#5 <<< i), ime := false, eiPending := false } : State).Inv :=
    { h with cart := h.cart.congr rfl rfl }
  rw [State.dispatch_eq]
  exact ((hcleared.cpuWrite _ _).cpuWrite _ _).over h.flags_low
    (by simpa using h.locked_policy) (by simpa using h.halt_bug)

theorem State.Inv.executeOne {s t : State} (h : s.Inv) (ht : executeOne s = .next t) : t.Inv := by
  obtain ⟨u, _, hc, hs, e⟩ := executeOne_eq s
  cases e.symm.trans ht
  exact (h.fetch.of_completes hc hs).advance _

/-- Settles O60: each of the cases of an Update is made of operations that keep the invariant. -/
theorem stepKeepsInvariant : Obligations.StepKeepsInvariant := by
  intro s t h ht
  rcases step_cases s with ⟨_, e⟩ | ⟨_, e⟩ | ⟨_, _, e⟩ | ⟨_, _, e⟩ | ⟨_, _, _, e⟩ | ⟨_, _, _, e⟩ | ⟨_, _, _, e⟩
  case inr.inr.inr.inr.inr.inr => exact h.beginInstr.executeOne (e.symm.trans ht)
  all_goals cases e.symm.trans ht
  · exact h
  · exact h.spend 4
  · exact h.spend 4
  · exact (h.setRunState (by decide)).spend 4
  · exact (h.dispatch _).spend 20
  · exact h.setRunState (by decide)

end Sys2Proof.Machine
end

section
/-! The register file (R20 to R22), and the state after Reset: its values, its read-backs, its first step and its invariant
(R36, R38, R520 to R522). -/

namespace Sys2Proof.Machine

/-! ### The register file -/

/-- An 8-bit register written is seen by a read of that register and of no other (R20). -/
theorem Regs.get8_set8 (r : Regs) (i j : R8) (b : Byte) : (r.set8 i b).get8 j = if j = i then b else r.get8 j := by
  cases i <;> cases j <;> rfl

/-- The layout of F (R22). -/
theorem flagByte_layout (z n h c : Bool) :
    (flagByte z n h c).getLsbD 7 = z ∧ (flagByte z n h c).getLsbD 6 = n ∧ (flagByte z n h c).getLsbD 5 = h ∧
      (flagByte z n h c).getLsbD 4 = c ∧
      (flagByte z n h c).toNat = 128 * z.toNat + 64 * n.toNat + 32 * h.toNat + 16 * c.toNat := by
  decide +revert

/-- Settles O5: each part is a law of the register file, of the byte fields or of `flagByte`. -/
theorem registerFile : Obligations.RegisterFile := by
  intro r i j b v
  refine ⟨⟨Regs.get8_set8 r i j b, Regs.set8_f r i b, Regs.set8_sp r i b, Regs.set8_pc r i b⟩, ⟨rfl, rfl, rfl, rfl⟩,
    ?_, ?_⟩
  · rw [← hiByte_eq_extract, ← loByte_eq_extract]
    exact ⟨rfl, rfl, rfl, rfl⟩
  · intro z n h c hf
    obtain ⟨hz, hn, hh, hc, hv⟩ := flagByte_layout z n h c
    unfold Regs.fz Regs.fn Regs.fh Regs.fc
    rw [hf]
    exact ⟨hz, hn, hh, hc, flagByte_low z n h c, hv⟩

/-! ### Reset -/

theorem Frame.sized_blank : Frame.blank.sized :=
  ⟨List.length_replicate, fun _ h => List.eq_of_mem_replicate h ▸ List.length_replicate⟩

/-- The LCD is on after Reset, at the first dot of a frame (R38). -/
theorem Ppu.reset_inv : Ppu.reset.Inv where
  ly_range := by decide
  dot_range := by decide
  mode_on := fun _ => rfl
  window_on := fun _ => Nat.zero_le _
  window_range := Nat.zero_le _
  off := fun h => absurd h (by decide)
  back_sized := Frame.sized_blank
  front_sized := Frame.sized_blank

/-- A Reset that keeps a canonical cartridge image leaves the invariant, in both boot modes (R520). -/
theorem State.resetKeeping_inv (params : Params) {cart : Option Cartridge} (breakpoints : List Breakpoint)
    (host : HostSide) (hc : ∀ c, cart = some c → c.rom.wf = true ∧ ∀ cell ∈ c.rom, cell.1 < c.romLen) :
    (State.resetKeeping params cart breakpoints host).Inv where
  mem_wf := rfl
  mem_keys := fun _ h => absurd h List.not_mem_nil
  cart := ⟨rfl, fun _ h => absurd h List.not_mem_nil, hc⟩
  flags_low := by unfold State.resetKeeping; dsimp only; split <;> decide
  bank_lo := (by decide : Mbc.reset.bankLo ≠ 0)
  serial := (by decide : (0 : Byte) &&& 0x7E = 0)
  ppu := Ppu.reset_inv
  locked_policy := fun h => nomatch h
  halt_bug := fun h => nomatch h
  boot := fun h (hskip : params.bootMode = .skip) => by simp [State.resetKeeping, hskip] at h

/-- Settles O59: both states are what `State.resetKeeping` leaves. -/
theorem resetHasInvariant : Obligations.ResetHasInvariant := by
  constructor
  · exact State.resetKeeping_inv _ _ _ fun _ h => nomatch h
  · exact fun s hs => State.resetKeeping_inv s.params s.breakpoints s.host hs

/-- A result that a test finds to be a given next state is that state. -/
theorem eq_next_of_test {r : Result} {t : State} (h : (match r with | .next u => decide (u = t) | _ => false) = true) :
    r = .next t := by
  match r, h with
  | .next u, h => rw [of_decide_eq_true h]

/-- The first step: with no cartridge the byte at 0x0100 reads as 0xFF, so RST 38H runs in 16 cycles (R522). -/
theorem step_reset :
    step State.reset = .next
      { State.reset with
        cycles := 16, mem := [(0xFFFC, 0x01), (0xFFFD, 0x01)]
        regs := { State.reset.regs with pc := 0x0038, sp := 0xFFFC }
        timer := { State.reset.timer with div := 0xABDC }, ppu := { State.reset.ppu with dot := 16 } } :=
  eq_next_of_test (by decide +kernel)

/-- The bytes the registers read back as at reset, where they are not the stored ones (R38). -/
theorem reset_readBack :
    State.reset.busRead 0xFF00 = 0xCF ∧ State.reset.busRead 0xFF02 = 0x7E ∧ State.reset.busRead 0xFF04 = 0xAB ∧
      State.reset.busRead 0xFF07 = 0xF8 ∧ State.reset.busRead 0xFF0F = 0xE1 ∧ State.reset.busRead 0xFF41 = 0x86 ∧
      State.reset.busRead 0xFF44 = 0x00 ∧ State.reset.busRead 0xFF50 = 0xFF := by
  decide +kernel

/-- Settles O53: the values are those of the definition, the reads and the first step are evaluated. -/
theorem resetValues : Obligations.ResetValues := by
  obtain ⟨p1, sc, div, tac, intFlag, stat, ly, boot⟩ := reset_readBack
  refine ⟨rfl, rfl, rfl, rfl, rfl, rfl, rfl, rfl, rfl, rfl, fun _ => ⟨rfl, rfl⟩, rfl, rfl, rfl, rfl, rfl, rfl, rfl, rfl,
    rfl, rfl, rfl, rfl, rfl, rfl, rfl, rfl, rfl, rfl, rfl, rfl, rfl, rfl, rfl, rfl, rfl, rfl, p1, sc, div, tac,
    intFlag, stat, ly, boot, step_reset⟩

end Sys2Proof.Machine
end

section
/-! Which instructions write SP, IME, the EI latch, the run state and the HALT bug latch (R23, R25 to R28): one lemma per shape of
meaning, and then the instructions by name. -/

namespace Sys2Proof.Machine

/-! ### Who writes the control state -/

/-- The instructions that may change SP (R23). -/
inductive WritesSp : Instr → Prop where
  | ldPairImm (n : Word) : WritesSp (.ldPairImm .sp n)
  | ldSpHl : WritesSp .ld_sp_hl
  | incSp : WritesSp (.incPair .sp)
  | decSp : WritesSp (.decPair .sp)
  | addSp (e : Byte) : WritesSp (.add_sp_e8 e)
  | push (p : R16s) : WritesSp (.pushPair p)
  | pop (p : R16s) : WritesSp (.popPair p)
  | call (a : Word) : WritesSp (.call_a16 a)
  | callCond (cc : Cond) (a : Word) : WritesSp (.callCond cc a)
  | rst (n : RstNo) : WritesSp (.rst n)
  | ret : WritesSp .ret
  | retCond (cc : Cond) : WritesSp (.retCond cc)
  | reti : WritesSp .reti

/-- `t` has the IME, the EI latch, the run state and the HALT bug latch of `s` (R25 to R28). -/
structure State.SameControl (s t : State) : Prop where
  ime : t.ime = s.ime
  eiPending : t.eiPending = s.eiPending
  runState : t.runState = s.runState
  haltBug : t.haltBug = s.haltBug

/-- What is stated of every instruction: the control fields that change are ones it may write. -/
structure ControlWrites (i : Instr) (s t : State) : Prop where
  ime : t.ime = s.ime ∨ i = .di ∨ i = .reti
  eiPending : t.eiPending = s.eiPending ∨ i = .di ∨ i = .ei
  runState : t.runState = s.runState ∨ i = .halt ∨ (∃ n, i = .stop_n8 n) ∨ ∃ x, i = .illegal x
  haltBug : t.haltBug = s.haltBug ∨ i = .halt
  sp : t.regs.sp = s.regs.sp ∨ WritesSp i

/-- A meaning of `i` that completes and writes only control fields `i` may write. -/
def WritesNamed (i : Instr) (s : State) (r : Result) : Prop := ∃ t, r = .next t ∧ ControlWrites i s t

theorem ControlWrites.of_same {i : Instr} {s t : State} (h : s.SameControl t)
    (hsp : t.regs.sp = s.regs.sp ∨ WritesSp i) : ControlWrites i s t :=
  ⟨.inl h.ime, .inl h.eiPending, .inl h.runState, .inl h.haltBug, hsp⟩

section
variable {i : Instr} (s : State)

/-- A meaning that writes the register file only. -/
theorem writesNamed_regs (r : Regs) (n : Nat) (hsp : r.sp = s.regs.sp ∨ WritesSp i) :
    WritesNamed i s (.next (({ s with regs := r } : State).charge n)) :=
  ⟨_, rfl, .of_same ⟨rfl, rfl, rfl, rfl⟩ hsp⟩

/-- A meaning that stores one byte and leaves the register file `r`. -/
theorem writesNamed_store (a : Word) (v : Byte) (r : Regs) (n : Nat) (hsp : r.sp = s.regs.sp ∨ WritesSp i) :
    WritesNamed i s (.next (({ s.cpuWrite a v with regs := r } : State).charge n)) :=
  ⟨_, rfl, .of_same
    ⟨State.cpuWrite_ime s a v, State.cpuWrite_eiPending s a v, State.cpuWrite_runState s a v,
      State.cpuWrite_haltBug s a v⟩
    hsp⟩

theorem State.cpuWrite_sp (a : Word) (v : Byte) : (s.cpuWrite a v).regs.sp = s.regs.sp :=
  congrArg Regs.sp (State.cpuWrite_regs s a v)

theorem writesNamed_storeAt (a : Word) (v : Byte) (n : Nat) : WritesNamed i s (storeAt a v n s) :=
  writesNamed_store s a v _ n (.inl (State.cpuWrite_sp s a v))

theorem writesNamed_storeF (a : Word) (v f : Byte) (n : Nat) :
    WritesNamed i s (.next (((s.cpuWrite a v).setF f).charge n)) :=
  writesNamed_store s a v _ n (.inl (State.cpuWrite_sp s a v))

theorem writesNamed_storeAndStep (v : Word) : WritesNamed i s (storeAndStep v s) :=
  writesNamed_store s _ _ _ 8 (.inl (State.cpuWrite_sp s s.regs.hl s.regs.a))

theorem writesNamed_storeSp (a : Word) : WritesNamed i s (storeSp a s) := by
  refine ⟨_, rfl, .of_same ⟨?_, ?_, ?_, ?_⟩ (.inl ?_)⟩ <;> simp [State.cpuWrite16]

/-- A push with whatever the meaning does to the register file. -/
theorem writesNamed_push (h : WritesSp i) (v : Word) (r : Regs) (n : Nat) :
    WritesNamed i s (.next (({ s.push16 v with regs := r } : State).charge n)) := by
  rw [State.push16_eq]
  exact ⟨_, rfl, .of_same ⟨rfl, rfl, rfl, rfl⟩ (.inr h)⟩

theorem writesNamed_jumpIf (cc : Cond) (a : Word) (m n : Nat) : WritesNamed i s (jumpIf cc a m n s) := by
  unfold jumpIf
  split_ifs
  · exact writesNamed_regs s _ m (.inl rfl)
  · exact writesNamed_regs s s.regs n (.inl rfl)

theorem writesNamed_callIf (h : WritesSp i) (cc : Cond) (a : Word) : WritesNamed i s (callIf cc a s) := by
  unfold callIf
  split_ifs
  · exact writesNamed_push s h _ _ _
  · exact writesNamed_regs s s.regs 12 (.inl rfl)

theorem writesNamed_retIf (h : WritesSp i) (cc : Cond) : WritesNamed i s (retIf cc s) := by
  unfold retIf
  split_ifs
  · exact writesNamed_regs s _ 20 (.inr h)
  · exact writesNamed_regs s s.regs 8 (.inl rfl)

/-- An entry of the prefixed table writes a register or the byte at HL, and the flags (R365). -/
theorem writesNamed_runPrefixed (b : Byte) : WritesNamed i s (runPrefixed b s) := by
  unfold runPrefixed
  split
  · exact writesNamed_regs s _ 8 (.inl (Regs.set8_sp _ _ _))
  · exact writesNamed_storeF s _ _ _ 16
  · exact writesNamed_regs s _ 8 (.inl rfl)
  · exact writesNamed_regs s _ 12 (.inl rfl)
  · exact writesNamed_regs s _ 8 (.inl (Regs.set8_sp _ _ _))
  · exact writesNamed_storeAt s _ _ 16
  · exact writesNamed_regs s _ 8 (.inl (Regs.set8_sp _ _ _))
  · exact writesNamed_storeAt s _ _ 16

theorem writesNamed_halt : WritesNamed .halt s (halt s) := by
  unfold halt
  split_ifs
  · exact ⟨_, rfl, .inl rfl, .inl rfl, .inl rfl, .inr rfl, .inl rfl⟩
  · exact ⟨_, rfl, .inl rfl, .inl rfl, .inr (.inl rfl), .inl rfl, .inl rfl⟩

theorem writesNamed_stop (n : Byte) : WritesNamed (.stop_n8 n) s (stop s) := by
  unfold stop
  split
  · exact writesNamed_regs s s.regs 4 (.inl rfl)
  · exact ⟨_, rfl, .inl rfl, .inl rfl, .inr (.inr (.inl ⟨n, rfl⟩)), .inl rfl, .inl rfl⟩

theorem writesNamed_unassigned (x : IllegalOp) : WritesNamed (.illegal x) s (unassigned s) := by
  unfold unassigned
  split
  · exact writesNamed_regs s s.regs 4 (.inl rfl)
  · exact ⟨_, rfl, .inl rfl, .inl rfl, .inr (.inr (.inr ⟨x, rfl⟩)), .inl rfl, .inl rfl⟩

end

/-- Every instruction writes only the control fields its rule gives it. The cases are the writers, the stores and the
conditional jumps; every other meaning writes the register file only, and not SP. -/
theorem exec_writesNamed (i : Instr) (s : State) : WritesNamed i s (exec i s) := by
  cases i
  case ld_sp_n16 n => exact writesNamed_regs s _ _ (.inr (.ldPairImm n))
  case ld_sp_hl => exact writesNamed_regs s _ _ (.inr .ldSpHl)
  case inc_sp => exact writesNamed_regs s _ _ (.inr .incSp)
  case dec_sp => exact writesNamed_regs s _ _ (.inr .decSp)
  case add_sp_e8 e => exact writesNamed_regs s _ _ (.inr (.addSp e))
  case push_bc => exact writesNamed_push s (.push .bc) _ _ _
  case push_de => exact writesNamed_push s (.push .de) _ _ _
  case push_hl => exact writesNamed_push s (.push .hl) _ _ _
  case push_af => exact writesNamed_push s (.push .af) _ _ _
  case pop_bc => exact writesNamed_regs s _ _ (.inr (.pop .bc))
  case pop_de => exact writesNamed_regs s _ _ (.inr (.pop .de))
  case pop_hl => exact writesNamed_regs s _ _ (.inr (.pop .hl))
  case pop_af => exact writesNamed_regs s _ _ (.inr (.pop .af))
  case call_a16 a => exact writesNamed_push s (.call a) _ _ _
  case call_nz_a16 a => exact writesNamed_callIf s (.callCond .nz a) _ _
  case call_z_a16 a => exact writesNamed_callIf s (.callCond .z a) _ _
  case call_nc_a16 a => exact writesNamed_callIf s (.callCond .nc a) _ _
  case call_c_a16 a => exact writesNamed_callIf s (.callCond .c a) _ _
  case rst_00h => exact writesNamed_push s (.rst .t00) _ _ _
  case rst_08h => exact writesNamed_push s (.rst .t08) _ _ _
  case rst_10h => exact writesNamed_push s (.rst .t10) _ _ _
  case rst_18h => exact writesNamed_push s (.rst .t18) _ _ _
  case rst_20h => exact writesNamed_push s (.rst .t20) _ _ _
  case rst_28h => exact writesNamed_push s (.rst .t28) _ _ _
  case rst_30h => exact writesNamed_push s (.rst .t30) _ _ _
  case rst_38h => exact writesNamed_push s (.rst .t38) _ _ _
  case ret => exact writesNamed_regs s _ _ (.inr .ret)
  case ret_nz => exact writesNamed_retIf s (.retCond .nz) _
  case ret_z => exact writesNamed_retIf s (.retCond .z) _
  case ret_nc => exact writesNamed_retIf s (.retCond .nc) _
  case ret_c => exact writesNamed_retIf s (.retCond .c) _
  case reti => exact ⟨_, rfl, .inr (.inr rfl), .inl rfl, .inl rfl, .inl rfl, .inr .reti⟩
  case di => exact ⟨_, rfl, .inr (.inl rfl), .inr (.inl rfl), .inl rfl, .inl rfl, .inl rfl⟩
  case ei => exact ⟨_, rfl, .inl rfl, .inr (.inr rfl), .inl rfl, .inl rfl, .inl rfl⟩
  case halt => exact writesNamed_halt s
  case stop_n8 n => exact writesNamed_stop s n
  case illegal_d3 => exact writesNamed_unassigned s .xD3
  case illegal_db => exact writesNamed_unassigned s .xDB
  case illegal_dd => exact writesNamed_unassigned s .xDD
  case illegal_e3 => exact writesNamed_unassigned s .xE3
  case illegal_e4 => exact writesNamed_unassigned s .xE4
  case illegal_eb => exact writesNamed_unassigned s .xEB
  case illegal_ec => exact writesNamed_unassigned s .xEC
  case illegal_ed => exact writesNamed_unassigned s .xED
  case illegal_f4 => exact writesNamed_unassigned s .xF4
  case illegal_fc => exact writesNamed_unassigned s .xFC
  case illegal_fd => exact writesNamed_unassigned s .xFD
  case ld_mhl_b | ld_mhl_c | ld_mhl_d | ld_mhl_e | ld_mhl_h | ld_mhl_l | ld_mhl_a | ld_mhl_n8 | ld_mbc_a | ld_mde_a |
      ld_ma16_a | ldh_ma8_a | ld_mc_a |
      res_0_mhl | res_1_mhl | res_2_mhl | res_3_mhl | res_4_mhl | res_5_mhl | res_6_mhl | res_7_mhl |
      set_0_mhl | set_1_mhl | set_2_mhl | set_3_mhl | set_4_mhl | set_5_mhl | set_6_mhl | set_7_mhl =>
    exact writesNamed_storeAt s _ _ _
  case inc_mhl | dec_mhl | rlc_mhl | rrc_mhl | rl_mhl | rr_mhl | sla_mhl | sra_mhl | swap_mhl | srl_mhl =>
    exact writesNamed_storeF s _ _ _ _
  case ld_mhli_a | ld_mhld_a => exact writesNamed_storeAndStep s _
  case ld_ma16_sp => exact writesNamed_storeSp s _
  case jp_nz_a16 | jp_z_a16 | jp_nc_a16 | jp_c_a16 | jr_nz_e8 | jr_z_e8 | jr_nc_e8 | jr_c_e8 =>
    exact writesNamed_jumpIf s _ _ _ _
  case prefix_cb => exact writesNamed_runPrefixed s _
  all_goals exact writesNamed_regs s _ _ (.inl rfl)

/-- Settles O23, from what every instruction may write. -/
theorem writersOfControlState : Obligations.WritersOfControlState := by
  intro i s t ht
  obtain ⟨u, hu, w⟩ := exec_writesNamed i s
  cases hu.symm.trans ht
  refine ⟨w.ime.resolve_left, w.eiPending.resolve_left, w.runState.resolve_left, w.haltBug.resolve_left, fun hsp => ?_⟩
  cases w.sp.resolve_left hsp <;> simp

end Sys2Proof.Machine
end

section
/-! A bus access region by region (R62): which storage it reaches, by the address range the statements use. -/

namespace Sys2Proof.Machine

variable (s : State)

/-! ### The regions that `mem` backs -/

/-- The regions whose bytes `mem` holds, each at the address's `ramAlias` (R65, R67 to R70, R72). -/
def Region.isRam : Region → Bool
  | .vram | .wram | .echo | .oam | .hram => true
  | _ => false

theorem isRam_of_range {a : Word}
    (h : (0x8000 ≤ a.toNat ∧ a.toNat < 0xA000) ∨ (0xC000 ≤ a.toNat ∧ a.toNat < 0xFEA0) ∨
      (0xFF80 ≤ a.toNat ∧ a.toNat < 0xFFFF)) : (regionOf a).isRam = true := by
  have hold := regionOf_holds a
  cases hr : regionOf a <;> rw [hr] at hold <;> simp only [Region.holds] at hold
  case vram | wram | echo | oam | hram => rfl
  all_goals omega

theorem ramAlias_of_echo {a : Word} (h : regionOf a = .echo) : ramAlias a = a.toNat - 0x2000 := if_pos h

theorem ramAlias_of_ne_echo {a : Word} (h : regionOf a ≠ .echo) : ramAlias a = a.toNat := if_neg h

/-- A read of RAM gives the byte its address stands for. -/
theorem State.busRead_ram {a : Word} (h : (regionOf a).isRam = true) : s.busRead a = s.mem.read (ramAlias a) := by
  unfold State.busRead ramAlias
  cases hr : regionOf a
  case vram | wram | echo | oam | hram => simp
  all_goals rw [hr] at h; cases h

/-- A write to RAM stores at the byte its address stands for. -/
theorem State.busWrite_ram {a : Word} (h : (regionOf a).isRam = true) (v : Byte) :
    s.busWrite a v = s.store (ramAlias a) v := by
  unfold State.busWrite ramAlias
  cases hr : regionOf a
  case vram | wram | echo | oam | hram => simp
  all_goals rw [hr] at h; cases h

/-- RAM reads back what was written, at every address that stands for the same byte (R68). -/
theorem State.busRead_busWrite_ram {a b : Word} (ha : (regionOf a).isRam = true) (hb : (regionOf b).isRam = true)
    (hab : ramAlias b = ramAlias a) (v : Byte) : (s.busWrite a v).busRead b = v := by
  rw [State.busWrite_ram s ha, State.busRead_ram _ hb, hab]
  exact Memory.read_write_same _ _ _

/-! ### The other regions -/

theorem State.busRead_unusable {a : Word} (h : regionOf a = .unusable) : s.busRead a = 0xFF := by
  unfold State.busRead; rw [h]; rfl

theorem State.busWrite_unusable {a : Word} (h : regionOf a = .unusable) (v : Byte) : s.busWrite a v = s := by
  unfold State.busWrite; rw [h]

theorem State.busRead_ie {a : Word} (h : regionOf a = .ie) : s.busRead a = s.ie := by
  unfold State.busRead; rw [h]

theorem State.busWrite_ie {a : Word} (h : regionOf a = .ie) (v : Byte) : s.busWrite a v = { s with ie := v } := by
  unfold State.busWrite; rw [h]

theorem State.busRead_io {a : Word} {r : IoReg} (h : regionOf a = .io) (hr : ioRegAt a = r) :
    s.busRead a = s.ioRegRead r a := by
  unfold State.busRead; rw [h, ← hr]

theorem State.busWrite_io {a : Word} {r : IoReg} (h : regionOf a = .io) (hr : ioRegAt a = r) (v : Byte) :
    s.busWrite a v = s.ioRegWrite r a v := by
  unfold State.busWrite; rw [h, ← hr]

/-- The overlay is off an address that no boot ROM maps (R83). -/
theorem State.bootOverlay_eq_false {s : State} {a : Word} (h : s.bootMapped = false ∨ 0x100 ≤ a.toNat) :
    s.bootOverlay a = false := by
  unfold State.bootOverlay
  rcases h with h | h
  · rw [h]; rfl
  · rw [decide_eq_false (by omega), Bool.and_false]

/-- The two regions of the ROM window. -/
theorem regionOf_rom {a : Word} (h : a.toNat < 0x8000) : regionOf a = .romLow ∨ regionOf a = .romHigh := by
  rcases Nat.lt_or_ge a.toNat 0x4000 with h' | h'
  · exact .inl (regionOf_romLow h')
  · exact .inr (regionOf_romHigh h' h)

theorem State.busRead_rom {s : State} {a : Word} (h : a.toNat < 0x8000) (hb : s.bootMapped = false ∨ 0x100 ≤ a.toNat) :
    s.busRead a = s.romRead a := by
  unfold State.busRead
  rcases regionOf_rom h with hr | hr
  · rw [hr, State.bootOverlay_eq_false hb]; rfl
  · rw [hr]

theorem State.busWrite_rom {a : Word} (h : a.toNat < 0x8000) (v : Byte) : s.busWrite a v = s.mapperWrite a v := by
  unfold State.busWrite
  rcases regionOf_rom h with hr | hr <;> rw [hr]

theorem State.busWrite_cartRam {a : Word} (h : regionOf a = .cartRam) (v : Byte) :
    s.busWrite a v = s.cartRamWrite a v := by
  unfold State.busWrite; rw [h]

/-- With cartridge RAM present and enabled, its window reads and writes the byte at the address's offset (R98). -/
theorem State.busRead_cartRam {s : State} {a : Word} {off : Nat} (h : regionOf a = .cartRam)
    (ho : s.cartRamOffset a = some off) : s.busRead a = s.cartRam.read off := by
  unfold State.busRead; rw [h, ho]

theorem State.busWrite_cartRam_some {s : State} {a : Word} {off : Nat} (h : regionOf a = .cartRam)
    (ho : s.cartRamOffset a = some off) (v : Byte) : s.busWrite a v = { s with cartRam := s.cartRam.write off v } := by
  rw [State.busWrite_cartRam s h, State.cartRamWrite, ho]

theorem State.busRead_busWrite_cartRam {s : State} {a : Word} {off : Nat} (h : regionOf a = .cartRam)
    (ho : s.cartRamOffset a = some off) (v : Byte) : (s.busWrite a v).busRead a = v := by
  rw [State.busWrite_cartRam_some h ho]
  exact (State.busRead_cartRam (s := { s with cartRam := s.cartRam.write off v }) h ho).trans
    (Memory.read_write_same _ _ _)

/-- With none present or enabled, the window reads 0xFF and ignores writes (R66, R74). -/
theorem State.cartRam_none {s : State} {a : Word} (h : regionOf a = .cartRam) (ho : s.cartRamOffset a = none)
    (v : Byte) : s.busRead a = 0xFF ∧ s.busWrite a v = s := by
  constructor
  · unfold State.busRead; rw [h, ho]; rfl
  · rw [State.busWrite_cartRam s h, State.cartRamWrite, ho]

end Sys2Proof.Machine
end

section
/-! RAM reads back and the echo is WRAM (R67 to R72); the canonical form of a memory (R111); the stack in WRAM (R77); the access
lock (R82). -/

namespace Sys2Proof.Machine

/-! ### RAM reads back -/

theorem isRam_of_wram_echo {a : Word} (h : 0xC000 ≤ a.toNat) (h' : a.toNat < 0xFE00) : (regionOf a).isRam = true :=
  isRam_of_range (.inr (.inl ⟨h, by omega⟩))

theorem toNat_add_echo {a : Word} (h : a.toNat < 0xDE00) : (a + 0x2000).toNat = a.toNat + 0x2000 := by
  bv_omega

/-- The echo of an address stands for the address's own byte (R68). -/
theorem ramAlias_add_echo {a : Word} (h : 0xC000 ≤ a.toNat) (h' : a.toNat < 0xDE00) :
    ramAlias (a + 0x2000) = ramAlias a := by
  have hn := toNat_add_echo h'
  rw [ramAlias_of_echo (regionOf_echo (by omega) (by omega)), ramAlias_of_ne_echo, hn]
  · omega
  · rw [regionOf_wram h (by omega)]; decide

theorem toNat_sub_echo {a : Word} (h : 0xE000 ≤ a.toNat) : (a - 0x2000).toNat = a.toNat - 0x2000 := by
  bv_omega

theorem ramAlias_sub_echo {a : Word} (h : 0xE000 ≤ a.toNat) (h' : a.toNat < 0xFE00) :
    ramAlias (a - 0x2000) = ramAlias a := by
  have hn := toNat_sub_echo h
  have hback : a - 0x2000 + 0x2000 = a := by bv_omega
  conv_rhs => rw [← hback]
  exact (ramAlias_add_echo (by omega) (by omega)).symm

/-- Settles O26: RAM reads back at every name of its byte; the unusable range and IE have no RAM. -/
theorem storageReadsBack : Obligations.StorageReadsBack := by
  intro s a v
  refine ⟨fun h => ?_, fun ⟨h, h'⟩ => ?_, fun ⟨h, h'⟩ => ?_, fun ⟨h, h'⟩ => ?_, fun ⟨h, h'⟩ => ?_, ?_, ?_⟩
  · rcases Nat.lt_or_ge a.toNat 0xFFFF with hlt | hge
    · have hram : (regionOf a).isRam = true := isRam_of_range (by omega)
      exact State.busRead_busWrite_ram s hram hram rfl v
    · have hie : regionOf a = .ie := regionOf_ie (by have := a.isLt; omega)
      rw [State.busWrite_ie s hie, State.busRead_ie _ hie]
  · have hn := toNat_add_echo h'
    exact State.busRead_busWrite_ram s (isRam_of_wram_echo h (by omega)) (isRam_of_wram_echo (by omega) (by omega))
      (ramAlias_add_echo h h') v
  · have hn := toNat_sub_echo h
    exact State.busRead_busWrite_ram s (isRam_of_wram_echo (by omega) h') (isRam_of_wram_echo (by omega) (by omega))
      (ramAlias_sub_echo h h') v
  · have hn := toNat_sub_echo h
    rw [State.busRead_ram s (isRam_of_wram_echo (by omega) h'),
      State.busRead_ram s (isRam_of_wram_echo (by omega) (by omega)), ramAlias_sub_echo h h']
  · have hu := regionOf_unusable h h'
    exact ⟨State.busRead_unusable s hu, State.busWrite_unusable s hu v⟩
  · exact State.busRead_ie s (regionOf_ie rfl)
  · exact State.busWrite_ie s (regionOf_ie rfl) v

/-! ### The canonical form -/

theorem Memory.read_head (cell : Host.Cell) (rest : Memory) : Memory.read (cell :: rest) cell.1 = cell.2 := if_pos rfl

/-- Two canonical memories that read alike list the same bytes: the lower of two first keys would be listed in one only. -/
theorem Memory.eq_of_read_eq {m₁ m₂ : Memory} {lo : Nat} (h₁ : Memory.wfFrom lo m₁ = true)
    (h₂ : Memory.wfFrom lo m₂ = true) (h : ∀ a, m₁.read a = m₂.read a) : m₁ = m₂ := by
  induction m₁ generalizing m₂ lo with
  | nil =>
    cases m₂ with
    | nil => rfl
    | cons c₂ r₂ =>
      simp only [Memory.wfFrom, Bool.and_eq_true, decide_eq_true_eq] at h₂
      exact absurd ((Memory.read_head c₂ r₂).symm.trans (h c₂.1).symm) h₂.1.2
  | cons c₁ r₁ ih =>
    simp only [Memory.wfFrom, Bool.and_eq_true, decide_eq_true_eq] at h₁
    obtain ⟨⟨-, hv₁⟩, hr₁⟩ := h₁
    cases m₂ with
    | nil => exact absurd ((Memory.read_head c₁ r₁).symm.trans (h c₁.1)) hv₁
    | cons c₂ r₂ =>
      simp only [Memory.wfFrom, Bool.and_eq_true, decide_eq_true_eq] at h₂
      obtain ⟨⟨-, hv₂⟩, hr₂⟩ := h₂
      have hkey : c₁.1 = c₂.1 := by
        rcases Nat.lt_trichotomy c₁.1 c₂.1 with hlt | heq | hgt
        · have := h c₁.1
          rw [Memory.read_head, Memory.read, if_neg (by omega), Memory.read_of_key_ge hr₂ (by omega)] at this
          exact absurd this hv₁
        · exact heq
        · have := h c₂.1
          rw [Memory.read_head, Memory.read, if_neg (by omega), Memory.read_of_key_ge hr₁ (by omega)] at this
          exact absurd this.symm hv₂
      have hval : c₁.2 = c₂.2 := by
        have := h c₁.1
        rwa [Memory.read_head, hkey, Memory.read_head] at this
      have htail : ∀ a, Memory.read r₁ a = Memory.read r₂ a := fun a => by
        rcases Nat.lt_or_ge c₁.1 a with hlt | hge
        · have := h a
          rwa [Memory.read, Memory.read, if_neg (by omega), if_neg (by omega)] at this
        · rw [Memory.read_of_key_ge hr₁ (by omega), Memory.read_of_key_ge hr₂ (by omega)]
      rw [Prod.ext hkey hval, ih hr₁ (hkey ▸ hr₂) htail]

/-- Settles O34: two laws of a write, and extensionality. -/
theorem memoryCanonical : Obligations.MemoryCanonical :=
  ⟨fun _ a v h => Memory.wf_write a v h, Memory.read_write, fun _ _ h₁ h₂ h => Memory.eq_of_read_eq h₁ h₂ h⟩

/-! ### The access lock -/

/-- When the lock blocks an access (R82). -/
theorem State.locked_iff (s : State) (a : Word) :
    s.locked a = true ↔ s.params.vramLock = true ∧ s.ppu.lcdc.getLsbD 7 = true ∧
      (((0x8000 ≤ a.toNat ∧ a.toNat ≤ 0x9FFF) ∧ s.ppu.mode = .drawPixels) ∨
        ((0xFE00 ≤ a.toNat ∧ a.toNat ≤ 0xFE9F) ∧ (s.ppu.mode = .searchOam ∨ s.ppu.mode = .drawPixels))) := by
  have hold := regionOf_holds a
  unfold State.locked Ppu.lcdOn
  rw [Bool.and_eq_true, Bool.and_eq_true, and_assoc]
  refine and_congr_right fun _ => and_congr_right fun _ => ?_
  cases hr : regionOf a <;> rw [hr] at hold <;> simp only [Region.holds] at hold
  case vram =>
    have hv : 0x8000 ≤ a.toNat ∧ a.toNat ≤ 0x9FFF := by omega
    have ho : ¬(0xFE00 ≤ a.toNat ∧ a.toNat ≤ 0xFE9F) := by omega
    simp [hv, ho]
  case oam =>
    have hv : ¬(0x8000 ≤ a.toNat ∧ a.toNat ≤ 0x9FFF) := by omega
    have ho : 0xFE00 ≤ a.toNat ∧ a.toNat ≤ 0xFE9F := by omega
    simp [hv, ho]
  all_goals
    have hv : ¬(0x8000 ≤ a.toNat ∧ a.toNat ≤ 0x9FFF) := by omega
    have ho : ¬(0xFE00 ≤ a.toNat ∧ a.toNat ≤ 0xFE9F) := by omega
    simp [hv, ho]

theorem State.cpuRead_of_locked {s : State} {a : Word} (h : s.locked a = true) : s.cpuRead a = 0xFF := if_pos h

theorem State.cpuWrite_of_locked {s : State} {a : Word} (h : s.locked a = true) (v : Byte) : s.cpuWrite a v = s := if_pos h

theorem State.cpuRead_of_not_locked {s : State} {a : Word} (h : ¬ s.locked a = true) : s.cpuRead a = s.busRead a := if_neg h

theorem State.cpuWrite_of_not_locked {s : State} {a : Word} (h : ¬ s.locked a = true) (v : Byte) :
    s.cpuWrite a v = s.busWrite a v := if_neg h

/-- Settles O30: `State.locked_iff` says which accesses are blocked, and the lock is the only difference to the bus. -/
theorem accessLock : Obligations.AccessLock := by
  intro s a v vram oam blocked
  have hiff : s.locked a = true ↔ blocked := State.locked_iff s a
  exact ⟨fun h => ⟨State.cpuRead_of_locked (hiff.2 h), State.cpuWrite_of_locked (hiff.2 h) v⟩,
    fun h => ⟨State.cpuRead_of_not_locked (mt hiff.1 h), State.cpuWrite_of_not_locked (mt hiff.1 h) v⟩⟩

/-! ### The stack in WRAM -/

theorem State.not_locked_wram (s : State) {a : Word} (h : regionOf a = .wram) : ¬ s.locked a = true := by
  unfold State.locked; rw [h]; simp

theorem State.busRead_wram (s : State) {a : Word} (h : regionOf a = .wram) : s.busRead a = s.mem.read a.toNat := by
  rw [State.busRead_ram s (by rw [h]; rfl), ramAlias_of_ne_echo (by rw [h]; decide)]

theorem State.cpuWrite_wram (s : State) {a : Word} (h : regionOf a = .wram) (v : Byte) :
    s.cpuWrite a v = s.store a.toNat v := by
  rw [State.cpuWrite_of_not_locked (s.not_locked_wram h), State.busWrite_ram s (by rw [h]; rfl),
    ramAlias_of_ne_echo (by rw [h]; decide)]

/-- Where a push in WRAM puts its bytes: the high byte at SP - 1, the low byte at SP - 2 (R77). -/
theorem State.push16_wram {s : State} (v : Word) (h1 : regionOf (s.regs.sp - 1) = .wram)
    (h2 : regionOf (s.regs.sp - 2) = .wram) :
    s.push16 v = (s.setSp (s.regs.sp - 2)).over
      ((s.store (s.regs.sp - 1).toNat (hiByte v)).store (s.regs.sp - 2).toNat (loByte v)) := by
  rw [State.push16_eq, State.cpuWrite_wram _ h1, State.cpuWrite_wram _ h2]

/-- Settles O35: both bytes lie in WRAM, at two addresses. -/
theorem stackRoundTrip : Obligations.StackRoundTrip := by
  intro s v hlo hhi
  have n1 : (s.regs.sp - 1).toNat = s.regs.sp.toNat - 1 := by bv_omega
  have n2 : (s.regs.sp - 2).toNat = s.regs.sp.toNat - 2 := by bv_omega
  have h1 : regionOf (s.regs.sp - 1) = .wram := regionOf_wram (by omega) (by omega)
  have h2 : regionOf (s.regs.sp - 2) = .wram := regionOf_wram (by omega) (by omega)
  have hnext : s.regs.sp - 2 + 1 = s.regs.sp - 1 := by bv_omega
  have hpush := State.push16_wram v h1 h2
  have hsp : (s.push16 v).regs.sp = s.regs.sp - 2 := by rw [hpush]; rfl
  have hlow : (s.push16 v).busRead (s.regs.sp - 2) = loByte v := by
    rw [State.busRead_wram _ h2, hpush]
    exact Memory.read_write_same _ _ _
  have hhigh : (s.push16 v).busRead (s.regs.sp - 1) = hiByte v := by
    rw [State.busRead_wram _ h1, hpush]
    exact (Memory.read_write_other _ _ (by omega)).trans (Memory.read_write_same _ _ _)
  have hpop : (s.push16 v).popValue = v := by
    rw [State.popValue, hsp, hnext, State.cpuRead_of_not_locked (State.not_locked_wram _ h1), hhigh,
      State.cpuRead_of_not_locked (State.not_locked_wram _ h2), hlow, wordOf_hiByte_loByte]
  have hback : (s.push16 v).pop16.regs.sp = s.regs.sp := by
    show (s.push16 v).regs.sp + 2 = s.regs.sp
    rw [hsp]
    bv_omega
  exact ⟨hsp, hpop, hback, hlow.trans (loByte_eq_extract v), hhigh.trans (hiByte_eq_extract v)⟩

end Sys2Proof.Machine
end

section
/-! The I/O window (R71, R75): what each address reads as, what a write to it does, and what a write to it leaves as it was. -/

namespace Sys2Proof.Machine

/-! ### The registers by address -/

theorem ioRegAt_eq {a : Word} (h : regionOf a = .io) : ioRegAt a = ioRegOf (a.toNat - 0xFF00) := by
  have hrange := io_range h
  have hlow : (loByte a).toNat = a.toNat - 0xFF00 := by rw [toNat_loByte]; omega
  rw [← hlow]; rfl

theorem ioRegOf_audio : ∀ n : Fin 128, 0x10 ≤ n.val ∧ n.val ≤ 0x3F → ioRegOf n = .audio := by decide

theorem ioRegOf_unnamed : ∀ n : Fin 128, n.val = 0x03 ∨ (0x08 ≤ n.val ∧ n.val ≤ 0x0E) ∨ (0x4C ≤ n.val ∧ n.val ≤ 0x4F) ∨
    0x51 ≤ n.val → ioRegOf n = .unnamed := by decide

/-- 0xFF10..0xFF3F are the audio bytes (R75). -/
theorem audio_of_range {a : Word} (h : 0xFF10 ≤ a.toNat) (h' : a.toNat ≤ 0xFF3F) :
    regionOf a = .io ∧ ioRegAt a = .audio := by
  have hio : regionOf a = .io := regionOf_io (by omega) (by omega)
  exact ⟨hio, (ioRegAt_eq hio).trans (ioRegOf_audio ⟨a.toNat - 0xFF00, by omega⟩ (by constructor <;> dsimp only <;> omega))⟩

/-- The addresses of the I/O window without a register (R71). -/
theorem unnamed_of_range {a : Word} (h : a.toNat = 0xFF03 ∨ (0xFF08 ≤ a.toNat ∧ a.toNat ≤ 0xFF0E) ∨
    (0xFF4C ≤ a.toNat ∧ a.toNat ≤ 0xFF4F) ∨ (0xFF51 ≤ a.toNat ∧ a.toNat ≤ 0xFF7F)) :
    regionOf a = .io ∧ ioRegAt a = .unnamed := by
  have hio : regionOf a = .io := regionOf_io (by omega) (by omega)
  exact ⟨hio, (ioRegAt_eq hio).trans (ioRegOf_unnamed ⟨a.toNat - 0xFF00, by omega⟩ (by dsimp only; omega))⟩

/-! ### Reads -/

/-- The read patterns of P1, TAC and IF: the bits without a register read as 1 (R75). -/
theorem p1_pattern (x : BitVec 2) : (0b11#2 ++ x ++ 0b1111#4 : Byte) = 0xC0 ||| (x.setWidth 8 <<< 4) ||| 0x0F := by
  decide +revert

theorem tac_pattern (x : BitVec 3) : (0b11111#5 ++ x : Byte) = 0xF8 ||| x.setWidth 8 := by decide +revert

theorem intFlag_pattern (x : BitVec 5) : (0b111#3 ++ x : Byte) = 0xE0 ||| x.setWidth 8 := by decide +revert

/-- STAT's writable bits, coincidence bit and mode bits, each in its place (R441). -/
theorem stat_pattern (w : BitVec 4) (c : Bool) (m : BitVec 2) :
    (1#1 ++ w ++ BitVec.ofBool c ++ m : Byte) =
      0x80 ||| (w.setWidth 8 <<< 3) ||| ((if c = true then 0x04#8 else 0x00#8) ||| m.setWidth 8) := by
  decide +revert

theorem Ppu.lyMatch_iff (p : Ppu) : p.lyMatch = true ↔ p.ly = p.lyc.toNat := beq_iff_eq

/-- What STAT reads as (R441). -/
theorem Ppu.statByte_eq (p : Ppu) :
    p.statByte = 0x80 ||| (p.statW.setWidth 8 <<< 3) |||
      (if p.lcdc.getLsbD 7 = true then
        (if p.ly = p.lyc.toNat then 0x04#8 else 0x00#8) ||| p.mode.bits.setWidth 8
      else 0x00#8) := by
  unfold Ppu.statByte
  rw [stat_pattern, Ppu.coincidence, Ppu.modeRead, Ppu.lcdOn]
  by_cases hon : p.lcdc.getLsbD 7 = true
  · simp only [hon, Bool.true_and, Ppu.lyMatch_iff, if_true]
  · rw [Bool.not_eq_true] at hon
    simp only [hon, Bool.false_and, Bool.false_eq_true, if_false]
    exact congrArg _ BitVec.or_self

/-- An address without a register is plain storage, or nothing backs it (R71). -/
theorem State.ioRegRead_unnamed (s : State) (a : Word) :
    s.ioRegRead .unnamed a = if s.params.ioUnusedPolicy = .storage then s.mem.read a.toNat else 0xFF := by
  unfold State.ioRegRead
  cases s.params.ioUnusedPolicy <;> rfl

/-- Settles O27: the address fixes the register, and the register's pattern is the byte stated. -/
theorem ioRegisterReads : Obligations.IoRegisterReads := by
  intro s
  have hstat : s.busRead 0xFF41 = s.ppu.statByte := State.busRead_io s rfl rfl
  refine ⟨p1_pattern s.p1Sel, rfl, rfl, hiByte_eq_extract s.timer.div, rfl, rfl, tac_pattern s.timer.tac,
    intFlag_pattern s.ifBits, rfl, ?_, rfl, rfl, rfl, rfl, rfl, rfl, rfl, rfl, rfl, rfl, rfl, fun a h h' => ?_,
    fun a h => ?_⟩
  · rw [hstat, Ppu.statByte_eq]
    cases s.ppu.mode <;> rfl
  · obtain ⟨hio, hr⟩ := audio_of_range h h'
    rw [State.busRead_io s hio hr]; rfl
  · obtain ⟨hio, hr⟩ := unnamed_of_range h
    rw [State.busRead_io s hio hr, State.ioRegRead_unnamed]

/-! ### Writes -/

theorem State.ioRegWrite_unnamed (s : State) (a : Word) (v : Byte) :
    s.ioRegWrite .unnamed a v =
      if s.params.ioUnusedPolicy = .storage then { s with mem := s.mem.write a.toNat v } else s := by
  unfold State.ioRegWrite
  cases s.params.ioUnusedPolicy <;> rfl

/-- A write to BOOT unmaps the boot ROM when it is not zero (R83). -/
theorem State.ioRegWrite_boot (s : State) (a : Word) (v : Byte) :
    s.ioRegWrite .boot a v = { s with bootMapped := s.bootMapped && decide (v = 0) } := by
  unfold State.ioRegWrite
  by_cases hv : v = 0
  · rw [decide_eq_true hv, Bool.and_true]; exact if_pos hv
  · rw [decide_eq_false hv, Bool.and_false]; exact if_neg hv

/-- Settles O28: the address fixes the register, and the register's write is the update stated. -/
theorem ioRegisterWrites : Obligations.IoRegisterWrites := by
  intro s v
  have hp1 : s.busWrite 0xFF00 v = { s with p1Sel := (v >>> 4).setWidth 2 } := State.busWrite_io s rfl rfl v
  have hif : s.busWrite 0xFF0F v = { s with ifBits := v.setWidth 5 } := State.busWrite_io s rfl rfl v
  have hstat : s.busWrite 0xFF41 v = { s with ppu := { s.ppu with statW := (v >>> 3).setWidth 4 } } :=
    State.busWrite_io s rfl rfl v
  refine ⟨?_, rfl, rfl, rfl, rfl, ?_, ?_, rfl, rfl, rfl, rfl, rfl, rfl, rfl, rfl, rfl, ?_, fun a h h' => ?_,
    fun a h => ?_⟩
  · rw [hp1, BitVec.setWidth_ushiftRight_eq_extractLsb]
  · exact hif
  · rw [hstat, BitVec.setWidth_ushiftRight_eq_extractLsb]
  · exact (State.busWrite_io s rfl rfl v).trans (State.ioRegWrite_boot s 0xFF50 v)
  · obtain ⟨hio, hr⟩ := audio_of_range h h'
    rw [State.busWrite_io s hio hr]; rfl
  · obtain ⟨hio, hr⟩ := unnamed_of_range h
    rw [State.busWrite_io s hio hr, State.ioRegWrite_unnamed]

end Sys2Proof.Machine
end

section
/-! The frame of a store (R80): which reads it can change, and what else it leaves as it was. -/

namespace Sys2Proof.Machine

/-! ### Reads a store does not reach -/

/-- Outside the mapper's windows a read does not depend on the bank registers (R64, R97, R98). -/
theorem State.busRead_setMbc (s : State) (m : Mbc) {b : Word} (h : mapperWindow b = false) :
    ({ s with mbc := m } : State).busRead b = s.busRead b := by
  unfold mapperWindow at h
  unfold State.busRead
  cases hb : regionOf b
  case romLow | romHigh | cartRam => rw [hb] at h; cases h
  case io => dsimp only; cases ioRegAt b <;> rfl
  all_goals rfl

/-- A mapper write changes the bank registers only (R64). -/
theorem State.mapperWrite_eq (s : State) (a : Word) (v : Byte) : ∃ m, s.mapperWrite a v = { s with mbc := m } := by
  unfold State.mapperWrite
  split
  · exact ⟨_, rfl⟩
  · split
    · exact ⟨_, rfl⟩
    · exact ⟨_, rfl⟩

/-- A byte of cartridge RAM is seen only at the addresses with its offset (R98). -/
theorem State.busRead_setCartRam (s : State) {off : Nat} (v : Byte) {b : Word}
    (h : regionOf b = .cartRam → s.cartRamOffset b ≠ some off) :
    ({ s with cartRam := s.cartRam.write off v } : State).busRead b = s.busRead b := by
  unfold State.busRead
  cases hb : regionOf b
  case cartRam =>
    dsimp only
    rw [show ({ s with cartRam := s.cartRam.write off v } : State).cartRamOffset b = s.cartRamOffset b from rfl]
    cases ho : s.cartRamOffset b with
    | none => rfl
    | some o => exact Memory.read_write_other _ _ fun e => h hb (e ▸ ho)
  case io => dsimp only; cases ioRegAt b <;> rfl
  all_goals rfl

/-- Above the overlay a read does not depend on whether the boot ROM is mapped (R83). -/
theorem State.busRead_setBootMapped (s : State) (x : Bool) {b : Word} (h : 0x100 ≤ b.toNat) :
    ({ s with bootMapped := x } : State).busRead b = s.busRead b := by
  unfold State.busRead
  rw [State.bootOverlay_eq_false (s := s) (.inr h), State.bootOverlay_eq_false (.inr h)]
  cases regionOf b
  case io => dsimp only; cases ioRegAt b <;> rfl
  all_goals rfl

/-- Only IE's own address reads IE (R70). -/
theorem State.busRead_setIe (s : State) (v : Byte) {b : Word} (h : regionOf b ≠ .ie) :
    ({ s with ie := v } : State).busRead b = s.busRead b := by
  unfold State.busRead
  cases hb : regionOf b
  case ie => exact absurd hb h
  case io => dsimp only; cases ioRegAt b <;> rfl
  all_goals rfl

/-- The registers, beside itself, whose reads a write to a register may change (R421, R422, R441, R444, R455). -/
def IoReg.affects (r q : IoReg) : Bool :=
  q == r ||
    match r with
    | .div | .tac => q == .tima || q == .intFlag
    | .lcdc => q == .stat || q == .ly || q == .intFlag
    | .lyc => q == .stat
    | _ => false

/-- The registers whose write stores in no memory and unmaps nothing. -/
def IoReg.isDevice : IoReg → Bool
  | .audio | .unnamed | .dma | .boot => false
  | _ => true

/-- A write to a device register leaves the reads of the registers it does not affect. `key` masks the affected ones, so that
it holds of every pair of registers by computation. -/
theorem State.ioRegRead_ioRegWrite (s : State) {r q : IoReg} (a b : Word) (v : Byte) (hr : r.isDevice = true)
    (h : r.affects q = false) : (s.ioRegWrite r a v).ioRegRead q b = s.ioRegRead q b := by
  have key : (if r.affects q then s.ioRegRead q b else (s.ioRegWrite r a v).ioRegRead q b) = s.ioRegRead q b := by
    cases r
    case audio | unnamed | dma | boot => cases hr
    case div =>
      obtain ⟨x, f, e⟩ := State.timerUpdate_eq s { s.timer with div := 0 }
      rw [show s.ioRegWrite .div a v = _ from e]
      cases q <;> rfl
    case tac =>
      obtain ⟨x, f, e⟩ := State.timerUpdate_eq s { s.timer with tac := v.setWidth 3 }
      rw [show s.ioRegWrite .tac a v = _ from e]
      cases q <;> rfl
    case lcdc =>
      obtain ⟨f, ly, dot, mode, w, l, e⟩ := State.writeLcdc_eq s v
      rw [show s.ioRegWrite .lcdc a v = _ from e]
      cases q <;> rfl
    all_goals cases q <;> rfl
  rw [h] at key
  exact key

/-- A write to a device register writes the ports, the timer, the requests and the PPU only. -/
theorem State.ioRegWrite_device_eq (s : State) {r : IoReg} (a : Word) (v : Byte) (hr : r.isDevice = true) :
    ∃ p x c t f u, s.ioRegWrite r a v =
      { s with p1Sel := p, sb := x, sc := c, timer := t, ifBits := f, ppu := u } := by
  cases r
  case audio | unnamed | dma | boot => cases hr
  case div =>
    obtain ⟨_, _, e⟩ := State.timerUpdate_eq s { s.timer with div := 0 }
    exact ⟨_, _, _, _, _, _, e⟩
  case tac =>
    obtain ⟨_, _, e⟩ := State.timerUpdate_eq s { s.timer with tac := v.setWidth 3 }
    exact ⟨_, _, _, _, _, _, e⟩
  case lcdc =>
    obtain ⟨_, _, _, _, _, _, e⟩ := State.writeLcdc_eq s v
    exact ⟨_, _, _, _, _, _, e⟩
  all_goals exact ⟨_, _, _, _, _, _, rfl⟩

/-- Outside the I/O window no read changes with a device register, and inside it those the register affects do. -/
theorem State.busRead_ioRegWrite_device (s : State) {r : IoReg} (a : Word) (v : Byte) {b : Word}
    (hr : r.isDevice = true) (h : regionOf b = .io → r.affects (ioRegAt b) = false) :
    (s.ioRegWrite r a v).busRead b = s.busRead b := by
  have hio : regionOf b = .io → (s.ioRegWrite r a v).ioRegRead (ioRegAt b) b = s.ioRegRead (ioRegAt b) b :=
    fun hb => State.ioRegRead_ioRegWrite s a b v hr (h hb)
  obtain ⟨p, x, c, t, f, u, e⟩ := State.ioRegWrite_device_eq s a v hr
  rw [e] at hio ⊢
  exact State.busRead_congr b rfl rfl rfl rfl rfl rfl rfl hio

/-- DMA's own register, and no other, shows the byte written to it (R436). -/
theorem State.busRead_setDma (s : State) (v : Byte) {b : Word} (h : regionOf b = .io → ioRegAt b ≠ .dma) :
    ({ s with ppu := { s.ppu with dma := v } } : State).busRead b = s.busRead b := by
  refine State.busRead_congr b rfl rfl rfl rfl rfl rfl rfl fun hb => ?_
  cases hq : ioRegAt b
  case dma => exact absurd hq (h hb)
  all_goals rfl

/-- A named register at another address is another register (R75). -/
theorem ioRegAt_ne {a b : Word} (ha : regionOf a = .io) (hab : a ≠ b) (hna : ioRegAt a ≠ .audio)
    (hnu : ioRegAt a ≠ .unnamed) : regionOf b = .io → ioRegAt b ≠ ioRegAt a :=
  fun hb e => hab (ioRegAt_inj ha hb rfl e hna hnu)

/-- No other address stands for a byte of the I/O window. -/
theorem ramAlias_ne_of_io {a b : Word} (ha : regionOf a = .io) (hab : a ≠ b) : ramAlias b ≠ a.toNat := by
  have hrange := io_range ha
  unfold ramAlias
  split
  · next hb => have := echo_range hb; omega
  · exact fun e => hab (BitVec.eq_of_toNat_eq e.symm)

/-- What `alsoReaches` says of a device register is what the register affects. -/
theorem IoReg.affects_of_alsoReaches {r : IoReg} {b : Word} (hr : r.isDevice = true) (h : r.alsoReaches b = false)
    (hb : regionOf b = .io) (hne : ioRegAt b ≠ r) : r.affects (ioRegAt b) = false := by
  have hat : ioRegAt? b = some (ioRegAt b) := if_pos hb
  cases r
  case audio | unnamed | dma | boot => cases hr
  case div | tac | lcdc | lyc => simpa [IoReg.affects, IoReg.alsoReaches, hat, hne] using h
  all_goals simp [IoReg.affects, hne]

/-- A write to the I/O window is seen at its own address and where its register also reaches (R80). -/
theorem State.busRead_ioRegWrite_other (s : State) {a b : Word} (v : Byte) (ha : regionOf a = .io) (hab : a ≠ b)
    (h : (ioRegAt a).alsoReaches b = false) : (s.ioRegWrite (ioRegAt a) a v).busRead b = s.busRead b := by
  have hstore : (s.store a.toNat v).busRead b = s.busRead b :=
    State.busRead_store_other s _ v b (ramAlias_ne_of_io ha hab)
  have hne := ioRegAt_ne ha hab
  cases hr : ioRegAt a <;> rw [hr] at h hne
  case audio => exact hstore
  case unnamed =>
    unfold State.ioRegWrite
    cases s.params.ioUnusedPolicy
    · exact hstore
    · rfl
  case dma =>
    have hoam : regionOf b ≠ .oam := by simpa [IoReg.alsoReaches] using h
    rw [State.ioRegWrite, State.writeDma, State.busRead_dmaFold v b hoam _ fun i hi => List.mem_range.1 hi]
    exact State.busRead_setDma s v (hne (by decide) (by decide))
  case boot =>
    have hb : 0x100 ≤ b.toNat := by simpa [IoReg.alsoReaches] using h
    rw [State.ioRegWrite_boot]
    exact State.busRead_setBootMapped s _ hb
  all_goals
    exact State.busRead_ioRegWrite_device s a v rfl fun hb =>
      IoReg.affects_of_alsoReaches rfl h hb (hne (by decide) (by decide) hb)

/-- Every address a bus write does not reach reads as before it (R80). -/
theorem State.busRead_busWrite_other (s : State) {a b : Word} (v : Byte) (h : s.storeReaches a b = false) :
    (s.busWrite a v).busRead b = s.busRead b := by
  unfold State.storeReaches at h
  cases ha : regionOf a <;> rw [ha] at h <;> dsimp only at h
  case romLow | romHigh =>
    obtain ⟨m, e⟩ := State.mapperWrite_eq s a v
    rw [State.busWrite, ha]
    dsimp only
    rw [e, State.busRead_setMbc s m h]
  case cartRam =>
    cases ho : s.cartRamOffset a with
    | none => rw [(State.cartRam_none ha ho v).2]
    | some off =>
      rw [State.busWrite_cartRam_some ha ho, State.busRead_setCartRam]
      intro hb e
      simp [hb, e, ho] at h
  case vram | wram | echo | oam | hram =>
    rw [State.busWrite_ram s (by rw [ha]; rfl)]
    exact State.busRead_store_other s _ v b (by simpa using h)
  case unusable => rw [State.busWrite_unusable s ha]
  case io =>
    obtain ⟨hab, hreach⟩ := Bool.or_eq_false_iff.1 h
    rw [State.busWrite_io s ha rfl]
    exact State.busRead_ioRegWrite_other s v ha (by simpa using hab) hreach
  case ie =>
    rw [State.busWrite_ie s ha, State.busRead_setIe]
    intro hb
    have hbne : ramAlias b ≠ ramAlias a := by simpa using h
    rw [ramAlias_of_ne_echo (by rw [hb]; decide), ramAlias_of_ne_echo (by rw [ha]; decide), ie_range hb, ie_range ha]
      at hbne
    exact hbne rfl

theorem State.busRead_cpuWrite_other (s : State) {a b : Word} (v : Byte) (h : s.storeReaches a b = false) :
    (s.cpuWrite a v).busRead b = s.busRead b := by
  unfold State.cpuWrite
  split_ifs
  · rfl
  · exact State.busRead_busWrite_other s v h

/-! ### The rest of the machine -/

/-- A store outside the mapper's windows, the I/O window and IE changes the memory only. -/
theorem State.cpuWrite_mem_only (s : State) {a : Word} (v : Byte)
    (h : (0x8000 ≤ a.toNat ∧ a.toNat < 0xA000) ∨ (0xC000 ≤ a.toNat ∧ a.toNat < 0xFF00) ∨
      (0xFF80 ≤ a.toNat ∧ a.toNat < 0xFFFF)) : s.cpuWrite a v = { s with mem := (s.cpuWrite a v).mem } := by
  unfold State.cpuWrite
  split_ifs
  · rfl
  · by_cases hu : 0xFEA0 ≤ a.toNat ∧ a.toNat < 0xFF00
    · rw [State.busWrite_unusable s (regionOf_unusable hu.1 hu.2)]
    · rw [State.busWrite_ram s (isRam_of_range (by omega))]; rfl

/-- Settles O24: the frame of a bus write, the regions that `mem` backs, and the laws of the CPU part. -/
theorem storeFrame : Obligations.StoreFrame := by
  intro s a v
  exact ⟨fun b h => State.busRead_cpuWrite_other s v h, State.cpuWrite_mem_only s v, by simp⟩

end Sys2Proof.Machine
end

section
/-! Which addresses the storing instructions store to (41_load8.md to 46_control_transfer.md): one lemma per shape of meaning, and
then the instructions by name. -/

namespace Sys2Proof.Machine

/-- A meaning that stores one byte, at `a`, and writes the CPU part besides. -/
def State.StoresByte (s : State) (a : Word) (r : Result) : Prop :=
  ∃ t v, r = .next t ∧ t = t.over (s.cpuWrite a v)

/-- A meaning that stores `v` at `a` and then a byte at `b`, or stores nothing, and writes the CPU part besides. -/
def State.StoresTwo (s : State) (a : Word) (v : Byte) (b : Word) (r : Result) : Prop :=
  ∃ t, r = .next t ∧ (t = t.over s ∨ ∃ w, t = t.over ((s.cpuWrite a v).cpuWrite b w))

/-- The frame of one store, for a meaning that stores one byte (R80). -/
theorem State.StoresByte.frame {s t : State} {a b : Word} {r : Result} (hs : s.StoresByte a r) (ht : r = .next t)
    (h : s.storeReaches a b = false) : t.busRead b = s.busRead b := by
  obtain ⟨u, v, hu, e⟩ := hs
  cases hu.symm.trans ht
  rw [e, State.over_busRead, State.busRead_cpuWrite_other s v h]

/-- The frame of two stores in their order (R80). -/
theorem State.StoresTwo.frame {s t : State} {a b c : Word} {v : Byte} {r : Result} (hs : s.StoresTwo a v c r)
    (ht : r = .next t) (h : s.storeReaches a b = false) (h' : (s.cpuWrite a v).storeReaches c b = false) :
    t.busRead b = s.busRead b := by
  obtain ⟨u, hu, hst⟩ := hs
  cases hu.symm.trans ht
  rcases hst with e | ⟨w, e⟩
  · rw [e, State.over_busRead]
  · rw [e, State.over_busRead, State.busRead_cpuWrite_other _ w h', State.busRead_cpuWrite_other s v h]

section
variable (s : State)

/-! ### One byte -/

theorem storeAt_storesByte (a : Word) (v : Byte) (n : Nat) : s.StoresByte a (storeAt a v n s) := ⟨_, v, rfl, rfl⟩

theorem ldMemReg_storesByte (r : R8) : s.StoresByte s.regs.hl (exec (.ldMemReg r) s) := by
  cases r <;> exact storeAt_storesByte s _ _ 8

theorem rotMem_storesByte (op : Rot) : s.StoresByte s.regs.hl (exec (.rotMem op) s) := by
  cases op <;> exact ⟨_, _, rfl, rfl⟩

theorem resMem_storesByte (k : BitNo) : s.StoresByte s.regs.hl (exec (.resMem k) s) := by
  cases k <;> exact storeAt_storesByte s _ _ 16

theorem setMem_storesByte (k : BitNo) : s.StoresByte s.regs.hl (exec (.setMem k) s) := by
  cases k <;> exact storeAt_storesByte s _ _ 16

/-! ### Two bytes -/

/-- LD (a16),SP stores the low byte first (R76, R231). -/
theorem storeSp_storesTwo (a : Word) : s.StoresTwo a (loByte s.regs.sp) (a + 1) (exec (.ld_ma16_sp a) s) :=
  ⟨_, rfl, .inr ⟨hiByte s.regs.sp, rfl⟩⟩

/-- A push stores the high byte first (R77), whatever the meaning does to the register file. -/
theorem push_storesTwo (v : Word) (r : Regs) (n : Nat) :
    s.StoresTwo (s.regs.sp - 1) (hiByte v) (s.regs.sp - 2) (.next (({ s.push16 v with regs := r } : State).charge n)) := by
  refine ⟨_, rfl, .inr ⟨loByte v, ?_⟩⟩
  rw [State.push16_eq]
  rfl

theorem pushPair_storesTwo (q : R16s) :
    s.StoresTwo (s.regs.sp - 1) (hiByte (s.regs.get16s q)) (s.regs.sp - 2) (exec (.pushPair q) s) := by
  cases q <;> exact push_storesTwo s _ _ 16

theorem callIf_storesTwo (cc : Cond) (a : Word) :
    s.StoresTwo (s.regs.sp - 1) (hiByte s.regs.pc) (s.regs.sp - 2) (callIf cc a s) := by
  unfold callIf
  split_ifs
  · exact push_storesTwo s _ _ 24
  · exact ⟨_, rfl, .inl rfl⟩

theorem callCond_storesTwo (cc : Cond) (a : Word) :
    s.StoresTwo (s.regs.sp - 1) (hiByte s.regs.pc) (s.regs.sp - 2) (exec (.callCond cc a) s) := by
  cases cc <;> exact callIf_storesTwo s _ a

theorem rst_storesTwo (w : RstNo) :
    s.StoresTwo (s.regs.sp - 1) (hiByte s.regs.pc) (s.regs.sp - 2) (exec (.rst w) s) := by
  cases w <;> exact push_storesTwo s _ _ 16

end

/-- Settles O25: each instruction stores where its shape says, and the frame is that of its stores. -/
theorem storingInstructionsFrame : Obligations.StoringInstructionsFrame := by
  intro s t b r x k n a cc q w single double
  have one {i : Instr} {target : Word} (h : s.StoresByte target (exec i s)) : single i target := h.frame
  have two {i : Instr} {first second : Word} {v : Byte} (h : s.StoresTwo first v second (exec i s)) :
      double i first v second := h.frame
  simp only [List.forall_mem_cons, List.not_mem_nil, false_implies, implies_true, and_true, ← loByte_eq_extract,
    ← hiByte_eq_extract]
  refine ⟨⟨one (ldMemReg_storesByte s r), one (storeAt_storesByte s _ _ 12), one ⟨_, _, rfl, rfl⟩, one ⟨_, _, rfl, rfl⟩,
    one ⟨_, _, rfl, rfl⟩, one ⟨_, _, rfl, rfl⟩, one (rotMem_storesByte s x), one (resMem_storesByte s k),
    one (setMem_storesByte s k)⟩, one (storeAt_storesByte s _ _ 8), one (storeAt_storesByte s _ _ 8),
    one (storeAt_storesByte s _ _ 16), ?_, ?_, two (storeSp_storesTwo s a), two (pushPair_storesTwo s q),
    two (push_storesTwo s _ _ 24), two (callCond_storesTwo s cc a), two (rst_storesTwo s w)⟩
  · rw [← highPage_eq]
    exact one (storeAt_storesByte s _ _ 12)
  · rw [← highPage_eq]
    exact one (storeAt_storesByte s _ _ 8)

end Sys2Proof.Machine
end

section
/-! The cartridge: the ROM-only mapper and the empty slot (R92, R522), MBC1 (R94 to R98), the boot overlay (R83), and what a load
installs (R90 to R95, R100). -/

namespace Sys2Proof.Machine

/-! ### ROM-only and the empty slot -/

/-- With no MBC1 cartridge the mapper ignores writes (R92, R522). -/
theorem State.mapperWrite_of_no_mbc1 {s : State} (h : ∀ c, s.cart = some c → c.mapper = .romOnly) (a : Word) (v : Byte) :
    s.mapperWrite a v = s := by
  unfold State.mapperWrite
  cases hc : s.cart with
  | none => rfl
  | some c => dsimp only; rw [h c hc]

/-- With no MBC1 cartridge there is no cartridge RAM (R66, R92). -/
theorem State.cartRamOffset_of_no_mbc1 {s : State} (h : ∀ c, s.cart = some c → c.mapper = .romOnly) (a : Word) :
    s.cartRamOffset a = none := by
  unfold State.cartRamOffset
  cases hc : s.cart with
  | none => rfl
  | some c => dsimp only; rw [h c hc]

theorem State.romRead_of_cart {s : State} {c : Cartridge} (h : s.cart = some c) (a : Word) :
    s.romRead a = c.romByte (c.romOffset s.mbc a) := by
  unfold State.romRead; rw [h]

/-- Settles O31: without an MBC1 cartridge the mapper ignores writes and has no RAM, and an offset is the address itself. -/
theorem romOnlyMapper : Obligations.RomOnlyMapper := by
  intro s a v
  refine ⟨fun c hc hm ha hb => ⟨?_, ?_⟩, fun hc ha hb => ⟨?_, ?_⟩, fun h hlo hhi => ?_⟩
  · rw [State.busRead_rom ha hb, State.romRead_of_cart hc, Cartridge.romOffset, hm]
    rfl
  · rw [State.busWrite_rom s ha, State.mapperWrite_of_no_mbc1]
    intro d hd
    cases hc.symm.trans hd
    exact hm
  · rw [State.busRead_rom ha hb, State.romRead, hc]
    rfl
  · rw [State.busWrite_rom s ha, State.mapperWrite_of_no_mbc1]
    intro d hd
    cases hc.symm.trans hd
  · exact State.cartRam_none (regionOf_cartRam hlo hhi) (State.cartRamOffset_of_no_mbc1 h a) v

/-! ### MBC1 -/

/-- The image offset MBC1 selects (R97): in the statement's words, the bank by the window, then the low 14 bits. -/
theorem Cartridge.romOffset_mbc1 {c : Cartridge} (h : c.mapper = .mbc1) (m : Mbc) (a : Word) :
    c.romOffset m a =
      (if a.toNat < 0x4000 then (if m.bankMode then 32 * m.bankHi.toNat else 0) % max 2 ((c.romLen + 16383) / 16384)
        else (32 * m.bankHi.toNat + m.bankLo.toNat) % max 2 ((c.romLen + 16383) / 16384)) * 0x4000 +
      a.toNat % 0x4000 := by
  unfold Cartridge.romOffset
  rw [h]
  simp only [Cartridge.lowBank, Cartridge.highBank, Cartridge.bankCount, Nat.mul_comm 32]

theorem State.cartRamOffset_mbc1 {s : State} {c : Cartridge} (hc : s.cart = some c) (hm : c.mapper = .mbc1) (a : Word) :
    s.cartRamOffset a =
      if s.mbc.ramEn = true ∧ 0 < c.ramSize then
        some (((if s.mbc.bankMode = true ∧ c.ramSize = 32768 then s.mbc.bankHi.toNat else 0) * 0x2000 +
          (a.toNat - 0xA000)) % c.ramSize)
      else none := by
  unfold State.cartRamOffset
  rw [hc]
  dsimp only
  rw [hm]
  simp only [Bool.and_eq_true, decide_eq_true_eq]

theorem State.mapperWrite_mbc1 {s : State} {c : Cartridge} (hc : s.cart = some c) (hm : c.mapper = .mbc1) (a : Word)
    (v : Byte) : s.mapperWrite a v = { s with mbc := s.mbc.control a v } := by
  unfold State.mapperWrite
  rw [hc]
  dsimp only
  rw [hm]

/-- The value fields of an MBC1 control write, as numbers (R96). -/
theorem ramEn_value (v : Byte) : (v.setWidth 4 == 0xA#4) = decide (v.toNat % 16 = 0xA) := by
  decide +revert

theorem bankLo_value (v : Byte) :
    (if v.setWidth 5 = 0#5 then (1 : BitVec 5) else v.setWidth 5) =
      if v.toNat % 32 = 0 then 1 else BitVec.ofNat 5 v.toNat := by
  decide +revert

theorem bankMode_value (v : Byte) : v.getLsbD 0 = decide (v.toNat % 2 = 1) := by
  decide +revert

theorem Mbc.control_ramEn (m : Mbc) {a : Word} (v : Byte) (h : a.toNat < 0x2000) :
    m.control a v = { m with ramEn := decide (v.toNat % 16 = 0xA) } := by
  rw [Mbc.control, if_pos h, ramEn_value]

theorem Mbc.control_setBankLo (m : Mbc) {a : Word} (v : Byte) (h : 0x2000 ≤ a.toNat) (h' : a.toNat < 0x4000) :
    m.control a v = { m with bankLo := if v.toNat % 32 = 0 then 1 else BitVec.ofNat 5 v.toNat } := by
  rw [Mbc.control, if_neg (by omega), if_pos h', bankLo_value]

theorem Mbc.control_bankHi (m : Mbc) {a : Word} (v : Byte) (h : 0x4000 ≤ a.toNat) (h' : a.toNat < 0x6000) :
    m.control a v = { m with bankHi := BitVec.ofNat 2 v.toNat } := by
  rw [Mbc.control, if_neg (by omega), if_neg (by omega), if_pos h']
  rfl

theorem Mbc.control_bankMode (m : Mbc) {a : Word} (v : Byte) (h : 0x6000 ≤ a.toNat) :
    m.control a v = { m with bankMode := decide (v.toNat % 2 = 1) } := by
  rw [Mbc.control, if_neg (by omega), if_neg (by omega), if_neg (by omega), bankMode_value]

/-- Settles O32: each clause is the MBC1 law of its window. -/
theorem mbc1Mapper : Obligations.Mbc1Mapper := by
  intro s c a v hc hm nb bank off rbank ramOff
  have hwrite (ha : a.toNat < 0x8000) : s.busWrite a v = { s with mbc := s.mbc.control a v } := by
    rw [State.busWrite_rom s ha, State.mapperWrite_mbc1 hc hm]
  refine ⟨fun ha hb => ?_, fun hlo hhi => ⟨fun hen => ?_, fun hdis => ?_⟩, fun h => ?_, fun ⟨h, h'⟩ => ?_,
    fun ⟨h, h'⟩ => ?_, fun ⟨h, h'⟩ => ?_⟩
  · rw [State.busRead_rom ha hb, State.romRead_of_cart hc, Cartridge.romOffset_mbc1 hm]
    rfl
  · have hr : regionOf a = .cartRam := regionOf_cartRam hlo hhi
    have ho : s.cartRamOffset a = some ramOff := by rw [State.cartRamOffset_mbc1 hc hm, if_pos hen]
    exact ⟨State.busRead_cartRam hr ho, State.busWrite_cartRam_some hr ho v, State.busRead_busWrite_cartRam hr ho v⟩
  · refine State.cartRam_none (regionOf_cartRam hlo hhi) ?_ v
    rw [State.cartRamOffset_mbc1 hc hm, if_neg]
    rintro ⟨hen, hsize⟩
    rcases hdis with hoff | hnone
    · exact Bool.false_ne_true (hoff.symm.trans hen)
    · omega
  · rw [hwrite (by omega), Mbc.control_ramEn _ v h]
  · rw [hwrite (by omega), Mbc.control_setBankLo _ v h h']
  · rw [hwrite (by omega), Mbc.control_bankHi _ v h h']
  · rw [hwrite h', Mbc.control_bankMode _ v h]

/-! ### The boot overlay -/

/-- 0xFF50 is BOOT's only address (R75). -/
theorem ioRegAt_eq_boot {a : Word} (h : regionOf a = .io) : ioRegAt a = .boot ↔ a = 0xFF50 :=
  ⟨fun hr => ioRegAt_inj h rfl hr rfl (by decide) (by decide), fun e => by rw [e]; rfl⟩

theorem State.dmaFold_bootMapped (v : Byte) (l : List Nat) (s : State) :
    (l.foldl (fun t i => t.dmaByte v i) s).bootMapped = s.bootMapped := by
  induction l generalizing s with
  | nil => rfl
  | cons i rest ih => rw [List.foldl_cons, ih]; rfl

theorem State.ioRegWrite_bootMapped (s : State) {r : IoReg} (a : Word) (v : Byte) (h : r ≠ .boot) :
    (s.ioRegWrite r a v).bootMapped = s.bootMapped := by
  by_cases hd : r.isDevice = true
  · obtain ⟨_, _, _, _, _, _, e⟩ := State.ioRegWrite_device_eq s a v hd
    rw [e]
  · cases r
    case boot => exact absurd rfl h
    case unnamed => unfold State.ioRegWrite; cases s.params.ioUnusedPolicy <;> rfl
    case dma => exact State.dmaFold_bootMapped v _ _
    case audio => rfl
    all_goals exact absurd rfl hd

/-- A bus write unmaps the boot ROM when it writes a byte other than 0 to BOOT, and otherwise leaves the overlay (R83). -/
theorem State.busWrite_bootMapped (s : State) (a : Word) (v : Byte) :
    (s.busWrite a v).bootMapped = (s.bootMapped && !decide (a = 0xFF50 ∧ v ≠ 0)) := by
  by_cases hboot : a = 0xFF50
  · subst hboot
    rw [State.busWrite_io s (r := .boot) rfl rfl, State.ioRegWrite_boot]
    by_cases hv : v = 0 <;> simp [hv]
  · have hkeep : (s.busWrite a v).bootMapped = s.bootMapped := by
      unfold State.busWrite
      cases ha : regionOf a
      case io => exact State.ioRegWrite_bootMapped s a v (mt (ioRegAt_eq_boot ha).1 hboot)
      case romLow | romHigh =>
        obtain ⟨m, e⟩ := State.mapperWrite_eq s a v
        dsimp only
        rw [e]
      case cartRam => dsimp only; unfold State.cartRamWrite; split <;> rfl
      all_goals rfl
    rw [hkeep, decide_eq_false fun e => hboot e.1, Bool.not_false, Bool.and_true]

/-- No store maps the boot ROM. -/
theorem State.cpuWrite_bootMapped {s : State} {a : Word} {v : Byte} (h : (s.cpuWrite a v).bootMapped = true) :
    s.bootMapped = true := by
  unfold State.cpuWrite at h
  split_ifs at h
  · exact h
  · rw [State.busWrite_bootMapped, Bool.and_eq_true] at h
    exact h.1

theorem State.Stored.bootMapped {s t : State} (hs : s.Stored t) (h : t.bootMapped = true) : s.bootMapped = true := by
  rcases hs with e | ⟨a, v, e⟩ | ⟨a, v, b, w, e⟩ <;> rw [e, State.over_bootMapped] at h
  · exact h
  · exact State.cpuWrite_bootMapped h
  · exact State.cpuWrite_bootMapped (State.cpuWrite_bootMapped h)

theorem State.spend_bootMapped (s : State) (n : Nat) : (s.spend n).bootMapped = s.bootMapped :=
  State.advance_bootMapped s n

/-- No Update maps the boot ROM (R83). -/
theorem step_bootMapped {s t : State} (ht : step s = .next t) (h : t.bootMapped = true) : s.bootMapped = true := by
  rcases step_cases s with ⟨_, e⟩ | ⟨_, e⟩ | ⟨_, _, e⟩ | ⟨_, _, e⟩ | ⟨_, _, _, e⟩ | ⟨_, _, _, e⟩ | ⟨_, _, _, e⟩
  case inr.inr.inr.inr.inr.inr =>
    obtain ⟨u, _, _, hs, he⟩ := executeOne_eq s.beginInstr
    cases (e.trans he).symm.trans ht
    rw [State.advance_bootMapped] at h
    have hfetch := hs.bootMapped h
    rwa [State.fetch_snd] at hfetch
  all_goals cases e.symm.trans ht
  · exact h
  · rwa [State.spend_bootMapped] at h
  · rwa [State.spend_bootMapped] at h
  · rwa [State.spend_bootMapped] at h
  · rw [State.spend_bootMapped, State.dispatch_eq, State.over_bootMapped] at h
    have hcleared := State.cpuWrite_bootMapped (State.cpuWrite_bootMapped h)
    exact hcleared
  · exact h

/-- Settles O33: the overlay's range, what a bus write does to it, and that no Update maps it. -/
theorem bootOverlay : Obligations.BootOverlay := by
  intro s image a hmode
  refine ⟨fun hmap ha => ?_, fun ha hb => ?_, fun v hmap => ?_, fun t ht h => step_bootMapped ht h⟩
  · unfold State.busRead State.bootOverlay State.bootByte
    rw [regionOf_romLow (by omega), hmap, decide_eq_true ha, hmode]
    rfl
  · rw [State.busRead_rom ha hb, State.busRead_rom ha (.inl rfl)]
    rfl
  · rw [State.busWrite_bootMapped, hmap]
    simp

/-! ### Loading -/

/-- The RAM sizes of R100. -/
theorem ramSizeOf_ok {code : Byte} {n : Nat} (h : ramSizeOf code = .ok n) :
    n = 0 ∨ n = 2048 ∨ n = 8192 ∨ n = 32768 := by
  unfold ramSizeOf at h
  split_ifs at h <;> cases h <;> simp

theorem mbc1RamSize_ok {file : List Byte} {n : Nat} (h : mbc1RamSize file = .ok n) :
    n = 0 ∨ n = 2048 ∨ n = 8192 ∨ n = 32768 := by
  unfold mbc1RamSize at h
  split_ifs at h
  · cases h; exact .inl rfl
  · exact ramSizeOf_ok h
  · exact ramSizeOf_ok h

/-- What an installed cartridge holds: the hash of the whole file, a RAM size of R100, and the file's bytes up to its
length (R92 to R95, R100). -/
structure Cartridge.Holds (c : Cartridge) (file : List Byte) : Prop where
  hash : c.hash = Config.hashFn file
  ramSize : c.ramSize = 0 ∨ c.ramSize = 2048 ∨ c.ramSize = 8192 ∨ c.ramSize = 32768
  bytes : ∀ k, k < c.romLen → c.rom.read k = file.getD k 0

/-- A cartridge whose image is the file, as far as the image goes. -/
theorem Cartridge.ofImage_holds (m : Mapper) {n : Nat} {rom file : List Byte}
    (hn : n = 0 ∨ n = 2048 ∨ n = 8192 ∨ n = 32768) (h : ∀ k, k < rom.length → rom.getD k 0 = file.getD k 0) :
    (Cartridge.ofImage m rom n file).Holds file where
  hash := rfl
  ramSize := hn
  bytes := fun k hk => by
    have hread : (Cartridge.ofImage m rom n file).rom.read k = rom.getD k Config.ramInit := by
      rw [Cartridge.ofImage, Memory.read_ofBytes, if_pos (Nat.zero_le k), Nat.sub_zero]
    exact hread.trans (h k hk)

/-- A ROM-only cartridge has at most the first 32,768 bytes of the file (R92, R93). -/
theorem romOnlyCartridge_ok {policy : OversizePolicy} {file : List Byte} {c : Cartridge}
    (h : romOnlyCartridge policy file = .ok c) :
    c.Holds file ∧ c.mapper = .romOnly ∧ c.romLen = min file.length 32768 := by
  unfold romOnlyCartridge at h
  split_ifs at h with hlen
  · cases h
    exact ⟨Cartridge.ofImage_holds _ (.inl rfl) fun _ _ => rfl, rfl, (Nat.min_eq_left hlen).symm⟩
  · cases policy <;> cases h
    refine ⟨Cartridge.ofImage_holds _ (.inl rfl) fun k hk => ?_, rfl, List.length_take.trans (Nat.min_comm _ _)⟩
    rw [List.length_take] at hk
    rw [List.getD_eq_getElem?_getD, List.getD_eq_getElem?_getD, List.getElem?_take_of_lt (by omega)]

/-- An MBC1 cartridge has the whole file, of at most 2 MiB (R94). -/
theorem mbc1Cartridge_ok {file : List Byte} {c : Cartridge} (h : mbc1Cartridge file = .ok c) :
    c.Holds file ∧ c.mapper = .mbc1 ∧ c.romLen = file.length ∧ file.length ≤ 2097152 := by
  unfold mbc1Cartridge at h
  split_ifs at h with hlen
  · split at h
    · next n hn =>
      cases h
      exact ⟨Cartridge.ofImage_holds _ (mbc1RamSize_ok hn) fun _ _ => rfl, rfl, rfl, hlen⟩
    · cases h

/-- The mapper under MAPPER `auto`, by the type byte (R91). -/
theorem selectMapper_auto {file : List Byte} {m : Mapper} (h : selectMapper .auto file = .ok m) :
    (m = .romOnly ↔ cartridgeType file = 0x00) ∧
      (m = .mbc1 ↔ cartridgeType file = 0x01 ∨ cartridgeType file = 0x02 ∨ cartridgeType file = 0x03) := by
  unfold selectMapper at h
  dsimp only at h
  split_ifs at h with h0 h1 <;> cases h
  · exact ⟨iff_of_true rfl h0, iff_of_false (by decide) (by rw [h0]; decide)⟩
  · exact ⟨iff_of_false (by decide) h0, iff_of_true rfl h1⟩

/-- What a cartridge made of a file is: its mapper is the one selected, and it holds the file as that mapper's rule says. -/
theorem makeCartridge_ok {params : Params} {file : List Byte} {c : Cartridge} (h : makeCartridge params file = .ok c) :
    selectMapper params.mapper file = .ok c.mapper ∧ c.Holds file ∧
      (c.mapper = .romOnly → c.romLen = min file.length 32768) ∧
      (c.mapper = .mbc1 → c.romLen = file.length ∧ file.length ≤ 2097152) := by
  unfold makeCartridge at h
  split at h
  · cases h
  · next hsel =>
    obtain ⟨hold, hm, hlen⟩ := romOnlyCartridge_ok h
    exact ⟨hm ▸ hsel, hold, fun _ => hlen, fun e => by rw [hm] at e; cases e⟩
  · next hsel =>
    obtain ⟨hold, hm, hlen⟩ := mbc1Cartridge_ok h
    exact ⟨hm ▸ hsel, hold, fun e => by (rw [hm] at e; cases e), fun _ => hlen⟩

/-- Settles O55: a load that succeeds made its cartridge by the rule of the selected mapper. -/
theorem loadedCartridge : Obligations.LoadedCartridge := by
  intro s t file hauto ht
  unfold State.loadFromFile at ht
  dsimp only at ht
  split at ht
  · next c hc =>
    obtain ⟨hsel, hold, hromOnly, hmbc1⟩ := makeCartridge_ok hc
    rw [hauto] at hsel
    obtain ⟨htype0, htype1⟩ := selectMapper_auto hsel
    cases ht
    exact ⟨c, rfl, hold.hash, htype0, htype1, hromOnly, hmbc1, hold.ramSize, hold.bytes⟩
  · cases ht

end Sys2Proof.Machine
end

section
/-! The decoder and the encoder (30_encoding.md sections 1 and 2). `decode_eq_ok_iff` says once what a decode reads; the tables are
held row by row to the encoder, so that an entry's encoding is the bytes that select it. -/

namespace Sys2Proof

/-! ### The round trip from an instruction -/

/-- The round trip of every instruction (R143): a 16-bit operand is split into its two bytes and put together again; in every
other case the decoder computes the instruction from the bytes written. -/
theorem decode_encode (i : Instr) : Laws.RoundTrip.Statement i := by
  cases i
  case ld_bc_n16 n => exact Laws.RoundTrip.ld_bc_n16 n
  case ld_de_n16 n => exact Laws.RoundTrip.ld_de_n16 n
  case ld_hl_n16 n => exact Laws.RoundTrip.ld_hl_n16 n
  case ld_sp_n16 n => exact Laws.RoundTrip.ld_sp_n16 n
  case ld_ma16_sp n => exact Laws.RoundTrip.ld_ma16_sp n
  case ld_ma16_a n => exact Laws.RoundTrip.ld_ma16_a n
  case ld_a_ma16 n => exact Laws.RoundTrip.ld_a_ma16 n
  case jp_a16 n => exact Laws.RoundTrip.jp_a16 n
  case jp_nz_a16 n => exact Laws.RoundTrip.jp_nz_a16 n
  case jp_z_a16 n => exact Laws.RoundTrip.jp_z_a16 n
  case jp_nc_a16 n => exact Laws.RoundTrip.jp_nc_a16 n
  case jp_c_a16 n => exact Laws.RoundTrip.jp_c_a16 n
  case call_a16 n => exact Laws.RoundTrip.call_a16 n
  case call_nz_a16 n => exact Laws.RoundTrip.call_nz_a16 n
  case call_z_a16 n => exact Laws.RoundTrip.call_z_a16 n
  case call_nc_a16 n => exact Laws.RoundTrip.call_nc_a16 n
  case call_c_a16 n => exact Laws.RoundTrip.call_c_a16 n
  case prefix_cb b => exact Laws.RoundTrip.prefix_cb b
  all_goals exact fun _ _ => rfl

/-- Settles O1, from the round trip of each instruction. -/
theorem decodeOfEncode : Obligations.DecodeOfEncode := decode_encode

/-! ### What a decode reads -/

/-- The operand bytes of an opcode, by its operand-length class (R139). -/
theorem operands_cases {op : Byte} {ops : List Byte} (h : ops.length = skip op) :
    (skip op = 0 ∧ ops = []) ∨ (skip op = 1 ∧ ∃ b1, ops = [b1]) ∨ (skip op = 2 ∧ ∃ b1 b2, ops = [b1, b2]) := by
  have hskip := skip_le_two op
  match ops, h with
  | [], h => exact .inl ⟨h.symm, rfl⟩
  | [b1], h => exact .inr (.inl ⟨h.symm, b1, rfl⟩)
  | [b1, b2], h => exact .inr (.inr ⟨h.symm, b1, b2, rfl⟩)
  | _ :: _ :: _ :: _, h => simp only [List.length_cons] at h; omega

/-- A decode that succeeds reads an opcode and its `skip` operand bytes, and answers the entry they select (R130, R143). -/
theorem decode_eq_ok_iff {bytes rest : List Byte} {i : Instr} :
    decode bytes = .ok (i, rest) ↔
      ∃ op ops, bytes = op :: (ops ++ rest) ∧ ops.length = skip op ∧ Machine.entryOf op ops = i := by
  constructor
  · intro h
    unfold decode at h
    split at h
    · cases h
    · next op tail =>
      split at h <;> cases h
      · next hs => exact ⟨op, [], rfl, hs.symm, rfl⟩
      · next b1 hs => exact ⟨op, [b1], rfl, hs.symm, rfl⟩
      · next b1 b2 hs => exact ⟨op, [b1, b2], rfl, hs.symm, rfl⟩
  · rintro ⟨op, ops, rfl, hlen, rfl⟩
    rcases operands_cases hlen with ⟨hs, rfl⟩ | ⟨hs, b1, rfl⟩ | ⟨hs, b1, b2, rfl⟩
    · exact decode_of_skip_zero hs rest
    · exact decode_of_skip_one hs b1 rest
    · exact decode_of_skip_two hs b1 b2 rest

/-- With fewer bytes than its operands need an opcode is refused (log entry 25). -/
theorem decode_truncated {op : Byte} {rest : List Byte} (h : rest.length < skip op) :
    decode (op :: rest) = .error (.truncated op) := by
  unfold decode
  dsimp only
  split
  · next hs => rw [hs] at h; exact absurd h (Nat.not_lt_zero _)
  · next hs => rw [hs, List.length_cons] at h; omega
  · next hs => rw [hs, List.length_cons, List.length_cons] at h; omega
  · rfl

/-! ### The tables against the encoder -/

/-- The operand bytes of an entry of the base table, from the operands its row is given (R136, R139). -/
def operandsFor (op b1 : Byte) (n16 : Word) : List Byte :=
  match skip op with
  | 0 => []
  | 1 => [b1]
  | _ => [loByte n16, hiByte n16]

/-- Entry k of row r of the base table is encoded as the opcode 16 * r + k and its operand bytes (R137, R142). -/
theorem map_encode_baseRow {row : Nat} (h : row < 16) (b1 : Byte) (n16 : Word) :
    (baseRow row b1 n16).map encode =
      (List.range 16).map fun k =>
        BitVec.ofNat 8 (16 * row + k) :: operandsFor (BitVec.ofNat 8 (16 * row + k)) b1 n16 := by
  interval_cases row <;> rfl

/-- The base table has an entry for each opcode (R137). -/
theorem baseRow_getElem? (op b1 b2 : Byte) :
    (baseRow (op.toNat / 16) b1 (wordOf b2 b1))[op.toNat % 16]? = some (baseEntry op b1 b2) := by
  have hk : op.toNat % 16 < (baseRow (op.toNat / 16) b1 (wordOf b2 b1)).length := by
    rw [length_baseRow]; exact Nat.mod_lt _ (by decide)
  rw [baseEntry, List.getD_eq_getElem _ _ hk, List.getElem?_eq_getElem hk]

/-- The prefixed table has an entry for each byte (R138). -/
theorem cbRow_getElem? (b : Byte) : (cbRow (b.toNat / 16))[b.toNat % 16]? = some (cbEntry b) := by
  have hk : b.toNat % 16 < (cbRow (b.toNat / 16)).length := by
    rw [length_cbRow]; exact Nat.mod_lt _ (by decide)
  rw [cbEntry, List.getD_eq_getElem _ _ hk, List.getElem?_eq_getElem hk]

/-- An entry of the base table is encoded as the opcode that selects it and its operand bytes (R137). -/
theorem encode_baseEntry (op b1 b2 : Byte) : encode (baseEntry op b1 b2) = op :: operandsFor op b1 (wordOf b2 b1) := by
  have hop := op.isLt
  have hk : op.toNat % 16 < 16 := Nat.mod_lt _ (by decide)
  have hnum : BitVec.ofNat 8 (16 * (op.toNat / 16) + op.toNat % 16) = op := by
    rw [Nat.div_add_mod, BitVec.ofNat_toNat, BitVec.setWidth_eq]
  have hentry := congrArg (·[op.toNat % 16]?) (map_encode_baseRow (row := op.toNat / 16) (by omega) b1 (wordOf b2 b1))
  simpa [baseRow_getElem?, hk, hnum] using hentry

/-- An entry of the prefixed table is encoded as 0xCB and the byte that selects it (R138). -/
theorem encode_cbEntry : ∀ b : Byte, encode (cbEntry b) = [0xCB, b] := by decide +kernel

theorem wellFormed_cbEntry : ∀ b : Byte, (cbEntry b).wellFormed = true := by decide +kernel

theorem wellFormed_eq_false_iff {i : Instr} : i.wellFormed = false ↔ ∃ b, i = .prefix_cb b := by
  constructor
  · intro h
    unfold Instr.wellFormed at h
    split at h
    · next b => exact ⟨b, rfl⟩
    · cases h
  · rintro ⟨b, rfl⟩; rfl

/-- Of the base table only 0xCB's own entry is not well formed: the encoding of `prefix_cb` begins with 0xCB (R143). -/
theorem wellFormed_baseEntry {op : Byte} (h : op ≠ 0xCB) (b1 b2 : Byte) : (baseEntry op b1 b2).wellFormed = true := by
  by_contra hw
  obtain ⟨b, hb⟩ := wellFormed_eq_false_iff.1 (Bool.not_eq_true _ ▸ hw)
  have henc := encode_baseEntry op b1 b2
  rw [hb] at henc
  exact h (List.head_eq_of_cons_eq henc).symm

/-- The entry an opcode and its operand bytes select is encoded as those bytes (R143). -/
theorem encode_entryOf {op : Byte} {ops : List Byte} (h : ops.length = skip op) :
    encode (Machine.entryOf op ops) = op :: ops := by
  unfold Machine.entryOf decodeOp
  split
  · next hcb =>
    subst hcb
    obtain ⟨b, rfl⟩ := List.length_eq_one_iff.1 (h : ops.length = 1)
    exact encode_cbEntry b
  · rw [encode_baseEntry, operandsFor]
    rcases operands_cases h with ⟨hs, rfl⟩ | ⟨hs, b1, rfl⟩ | ⟨hs, b1, b2, rfl⟩ <;> simp [hs]

/-- The decoder never answers PREFIX CB itself (R143). -/
theorem wellFormed_entryOf (op : Byte) (ops : List Byte) : (Machine.entryOf op ops).wellFormed = true := by
  unfold Machine.entryOf decodeOp
  split
  · exact wellFormed_cbEntry _
  · next h => exact wellFormed_baseEntry h _ _

/-- Settles O2: what was decoded is the entry of the bytes read, which is encoded as those bytes. -/
theorem encodeOfDecode : Obligations.EncodeOfDecode := by
  intro bytes rest i h
  obtain ⟨op, ops, rfl, hlen, rfl⟩ := decode_eq_ok_iff.1 h
  exact ⟨wellFormed_entryOf op ops, by rw [encode_entryOf hlen, List.cons_append]⟩

/-! ### Totality -/

/-- An instruction is one opcode byte and its operand bytes (R130): a well-formed one by the round trip, and PREFIX CB
by its own encoding. -/
theorem encode_shape (i : Instr) : ∃ op ops, encode i = op :: ops ∧ ops.length = skip op := by
  cases hw : i.wellFormed
  case false =>
    obtain ⟨b, rfl⟩ := wellFormed_eq_false_iff.1 hw
    exact ⟨0xCB, [b], rfl, rfl⟩
  case true =>
    obtain ⟨op, ops, hbytes, hlen, _⟩ := decode_eq_ok_iff.1 (decode_encode i hw [])
    exact ⟨op, ops, by simpa using hbytes, hlen⟩

/-- Settles O3, each clause from its law of the decoder, the encoder or the tables; the entry of a prefixed byte is looked up for
each of the 256 bytes. -/
theorem decodeIsTotal : Obligations.DecodeIsTotal := by
  refine ⟨fun op rest h => ?_, fun _ _ => decode_truncated, baseRow_getElem?, cbRow_getElem?, fun i => ?_, ?_⟩
  · refine ⟨_, decode_eq_ok_iff.2 ⟨op, rest.take (skip op), ?_, List.length_take_of_le h, rfl⟩⟩
    rw [List.take_append_drop]
  · obtain ⟨op, ops, henc, hlen⟩ := encode_shape i
    exact ⟨op, ops, henc, hlen, skip_le_two op⟩
  · decide +kernel

/-- Settles O4: each word is the encoding of its instruction, which decodes to it (O1). -/
theorem decodeSampleWords : Obligations.DecodeSampleWords :=
  ⟨decodeOfEncode .ld_d_mhl rfl [], decodeOfEncode (.ld_mhl_n8 0x07) rfl [], decodeOfEncode (.ld_hl_n16 0xC000) rfl [],
    decodeOfEncode .push_af rfl [], decodeOfEncode .sbc_a_d rfl [], decodeOfEncode .add_hl_de rfl [],
    decodeOfEncode .rla rfl [], decodeOfEncode .swap_a rfl [], decodeOfEncode .bit_7_h rfl [],
    decodeOfEncode (.jr_nz_e8 0xFD) rfl [], decodeOfEncode (.call_a16 0x0200) rfl [], decodeOfEncode .rst_28h rfl [],
    decodeOfEncode .halt rfl [], decodeOfEncode .illegal_d3 rfl []⟩

end Sys2Proof
end

section
/-! The fetch and the Update (30_encoding.md section 3): what a fetch reads and that the disassembler reads the same, the Updates that
execute no instruction and the one that does, and what an Update spends. -/

namespace Sys2Proof.Machine

/-! ### The fetch -/

@[simp] theorem State.fetchedTo_cpuRead (s : State) (v a : Word) : (s.fetchedTo v).cpuRead a = s.cpuRead a :=
  State.over_cpuRead (s.fetchedTo v) s a

@[simp] theorem State.fetchedTo_fetchByte (s : State) (v : Word) : (s.fetchedTo v).fetchByte = s.cpuRead v :=
  State.fetchedTo_cpuRead s v v

/-- With the HALT bug latch set the opcode is read again as the first operand byte (R28, R151). -/
theorem State.fetch_fst_haltBug (s : State) (h : s.haltBug = true) :
    s.fetch.1 =
      decodeOp (s.cpuRead s.regs.pc) (if skip (s.cpuRead s.regs.pc) = 0 then 0 else s.cpuRead s.regs.pc)
        (if skip (s.cpuRead s.regs.pc) = 2 then s.cpuRead (s.regs.pc + 1) else 0) := by
  have hpc : s.afterFetchByte = s.fetchedTo s.regs.pc := by simp [State.afterFetchByte, h, State.fetchedTo]
  have hskip := skip_le_two (s.cpuRead s.regs.pc)
  have hop : s.fetchByte = s.cpuRead s.regs.pc := rfl
  rcases hs : skip (s.cpuRead s.regs.pc) with _ | _ | _ | n
  case succ.succ.succ => omega
  all_goals simp [State.fetch, hop, hs, hpc, State.fetchedTo_afterFetchByte]

/-- The operand bytes of a record, by address on the 16-bit bus (R161). -/
theorem State.operandBytes_toNat (s : State) (a : Word) (n : Nat) :
    s.operandBytes a.toNat n = (List.range n).map fun i => s.busRead (a + BitVec.ofNat 16 (1 + i)) := by
  simp [State.operandBytes, Nat.add_assoc, BitVec.ofNat_add]

/-- A fetch decodes the disassembler's entry where the access lock hides none of the instruction's bytes (R164). -/
theorem State.fetch_fst_eq_disEntry (s : State) (hb : s.haltBug = false)
    (hfree : ∀ k : Nat, k ≤ skip (s.cpuRead s.regs.pc) → s.locked (s.regs.pc + BitVec.ofNat 16 k) = false) :
    s.fetch.1 = s.disEntry s.regs.pc.toNat := by
  have hread : ∀ k : Nat, k ≤ skip (s.cpuRead s.regs.pc) →
      s.cpuRead (s.regs.pc + BitVec.ofNat 16 k) = s.busRead (s.regs.pc + BitVec.ofNat 16 k) := fun k hk =>
    State.cpuRead_of_not_locked (by rw [hfree k hk]; exact Bool.false_ne_true)
  have hop : s.cpuRead s.regs.pc = s.busRead s.regs.pc := by simpa using hread 0 (Nat.zero_le _)
  have hskip := skip_le_two (s.busRead s.regs.pc)
  rw [State.fetch_fst s hb, State.disEntry, State.operandBytes_toNat, entryOf]
  rw [hop] at hread ⊢
  simp only [BitVec.ofNat_toNat, BitVec.setWidth_eq]
  rcases hs : skip (s.busRead s.regs.pc) with _ | _ | _ | n
  · rfl
  · have h1 := hread 1 (by omega)
    simp [List.range_succ, h1]
  · have h1 := hread 1 (by omega)
    have h2 := hread 2 (by omega)
    simp [List.range_succ, h1, h2]
  · omega

/-- A record has the opcode byte and its operand bytes (R161). -/
theorem State.disRecord_length (s : State) (a : Nat) :
    (s.disRecord a).length = 1 + skip (s.busRead (BitVec.ofNat 16 a)) := by
  simp [DisInstr.length, State.disRecord, State.operandBytes]

/-- With the latch clear a fetch only moves the PC past the instruction (R151, R152). -/
theorem State.fetch_snd_of_no_haltBug (s : State) (hb : s.haltBug = false) :
    s.fetch.2 =
      { s with regs := { s.regs with pc := s.regs.pc + BitVec.ofNat 16 (1 + skip (s.cpuRead s.regs.pc)) } } := by
  simp [State.fetch_snd, State.fetchLength, State.fetchedTo, hb]

/-- With the latch set a fetch clears it and moves the PC past the operand bytes only (R28, R151). -/
theorem State.fetch_snd_haltBug (s : State) (hb : s.haltBug = true) :
    s.fetch.2 =
      { s with
        haltBug := false
        regs := { s.regs with pc := s.regs.pc + BitVec.ofNat 16 (skip (s.cpuRead s.regs.pc)) } } := by
  simp [State.fetch_snd, State.fetchLength, State.fetchedTo, hb]

/-- Settles O40, from what a fetch reads, where it leaves the PC, and the disassembler's entry and record. -/
theorem fetchedBytes : Obligations.FetchedBytes := fun s =>
  ⟨fun hb => Prod.ext (s.fetch_fst hb) (s.fetch_snd_of_no_haltBug hb),
    fun hb => Prod.ext (s.fetch_fst_haltBug hb) (s.fetch_snd_haltBug hb),
    s.fetch_fst_eq_disEntry,
    fun a => by rw [State.disRecord_length, BitVec.ofNat_toNat, BitVec.setWidth_eq]⟩

/-! ### The Update -/

/-- With IME clear or nothing pending the dispatch check of an Update fails (R404). -/
theorem State.no_dispatch {s : State} (hint : s.ime = false ∨ s.pending = 0) : (s.ime && s.pending != 0) = false := by
  rcases hint with h | h <;> simp [h]

/-- At an instruction point an Update is one instruction (R150). -/
theorem step_of_instruction {s : State} (hrun : s.runState = .running) (hint : s.ime = false ∨ s.pending = 0)
    (hbreak : s.breakpointHit = false) : step s = executeOne s.beginInstr := by
  simp only [step, update, hrun, State.no_dispatch hint, hbreak, Bool.false_eq_true, if_false]

/-- At a breakpoint an Update pauses (R153). -/
theorem step_of_breakpoint {s : State} (hrun : s.runState = .running) (hint : s.ime = false ∨ s.pending = 0)
    (hbreak : s.breakpointHit = true) : step s = .next { s with runState := .breakpointPaused } := by
  simp only [step, update, hrun, State.no_dispatch hint, hbreak, Bool.false_eq_true, if_false, if_true]

/-- An unconditional breakpoint at the PC is hit while `bp_resume` is clear (R153). -/
theorem State.breakpointHit_of_mem {s : State} {b : Breakpoint} (hresume : s.bpResume = false) (hb : b ∈ s.breakpoints)
    (haddr : b.addr = s.regs.pc) (hcond : b.cond = none) : s.breakpointHit = true := by
  have hholds : b.holds s = true := by unfold Breakpoint.holds; rw [hcond]
  have hany : (s.breakpoints.any fun b => b.addr == s.regs.pc && b.holds s) = true :=
    List.any_eq_true.2 ⟨b, hb, by rw [haddr, hholds]; simp⟩
  rw [State.breakpointHit, hresume, hany]; rfl

theorem State.spend_eq (s : State) (n : Nat) : s.spend n = { s.advance n with cycles := s.cycles + n } := by
  rw [State.spend, State.charge, State.advance_cycles]

/-- The devices do not see the run state. -/
theorem State.setRunState_advance (s : State) (r : RunState) (n : Nat) :
    ({ s with runState := r } : State).advance n = { s.advance n with runState := r } := by
  have hover := State.over_advance { s with runState := r } s n
  rw [show State.over { s with runState := r } s = { s with runState := r } from rfl] at hover
  rw [hover]
  simp [State.over]

/-- Settles O37, one kind of Update at a time. -/
theorem updateWithoutInstruction : Obligations.UpdateWithoutInstruction := by
  intro s
  refine ⟨fun hrun => ?_, fun hrun => ?_, fun hrun hnone => ?_, fun hrun hsome => ?_, fun hrun hint hresume hex => ?_⟩
  · simp only [step, update, hrun]
  · simp only [step, update, hrun, State.spend_eq]
  · have hp : (s.pending != 0) = false := bne_eq_false_iff_eq.2 hnone
    simp only [step, update, hrun, hp, Bool.false_eq_true, if_false, State.spend_eq]
  · have hp : (s.pending != 0) = true := bne_iff_ne.2 hsome
    simp only [step, update, hrun, hp, if_true, State.spend_eq, State.setRunState_advance]
  · obtain ⟨b, hb, haddr, hcond⟩ := hex
    exact step_of_breakpoint hrun hint (State.breakpointHit_of_mem hresume hb haddr hcond)

/-- Three bytes are enough for any opcode; those its operands do not need are left (R139, R143). -/
theorem decode_three (op b1 b2 : Byte) :
    decode [op, b1, b2] =
      .ok (decodeOp op (if skip op = 0 then 0 else b1) (if skip op = 2 then b2 else 0), [b1, b2].drop (skip op)) := by
  have hskip := skip_le_two op
  rcases hs : skip op with _ | _ | _ | n
  · exact decode_of_skip_zero hs _
  · exact decode_of_skip_one hs _ _
  · exact decode_of_skip_two hs _ _ _
  · omega

/-- Settles O36: the bytes at the PC are the ones the fetch decodes, and the step executes what it fetched. -/
theorem stepRunsDecoded : Obligations.StepRunsDecoded := by
  intro s t i rest hrun hint hbreak hbug hdec hexec
  refine ⟨(encodeOfDecode _ _ _ hdec).1, ?_⟩
  have hbegin : ∀ a, s.beginInstr.cpuRead a = s.cpuRead a := State.over_cpuRead s.beginInstr s
  have hfst := s.beginInstr.fetch_fst hbug
  have hsnd := s.beginInstr.fetch_snd_of_no_haltBug hbug
  simp only [State.beginInstr_regs, hbegin] at hfst hsnd
  rw [decode_three] at hdec
  obtain ⟨hi, hrest⟩ := Prod.mk.inj (Except.ok.inj hdec)
  have hlen : 3 - rest.length = 1 + skip (s.cpuRead s.regs.pc) := by
    have hskip := skip_le_two (s.cpuRead s.regs.pc)
    rw [← hrest, List.length_drop, List.length_cons, List.length_cons, List.length_nil]
    omega
  rw [hlen] at hexec
  obtain ⟨u, hu, _, _, hone⟩ := executeOne_eq s.beginInstr
  rw [hfst, hsnd, hi] at hu
  cases hu.symm.trans hexec
  exact (step_of_instruction hrun hint hbreak).trans hone

/-! ### What an Update spends -/

/-- An Update answers, and either it leaves the CPU paused at a breakpoint and does nothing else, or it spends one of the six
costs of R155. -/
theorem step_spends (s : State) :
    ∃ t, step s = .next t ∧
      (t = { s with runState := .breakpointPaused } ∨ ∃ n ∈ [4, 8, 12, 16, 20, 24], t.cycles = s.cycles + n) := by
  rcases step_cases s with ⟨hr, e⟩ | ⟨_, e⟩ | ⟨_, _, e⟩ | ⟨_, _, e⟩ | ⟨_, _, _, e⟩ | ⟨_, _, _, e⟩ | ⟨_, _, _, e⟩
  · exact ⟨s, e, .inl (by rw [← hr])⟩
  · exact ⟨_, e, .inr ⟨4, by decide, by rw [State.spend_eq]⟩⟩
  · exact ⟨_, e, .inr ⟨4, by decide, by rw [State.spend_eq]⟩⟩
  · exact ⟨_, e, .inr ⟨4, by decide, by rw [State.spend_eq]⟩⟩
  · exact ⟨_, e, .inr ⟨20, by decide, by rw [State.spend_eq, State.dispatch_eq, State.over_cycles]⟩⟩
  · exact ⟨_, e, .inl rfl⟩
  · obtain ⟨t, _, hcpu, _, hstep⟩ := executeOne_eq s.beginInstr
    obtain ⟨n, hn, hcost⟩ := hcpu.cost
    refine ⟨_, e.trans hstep, .inr ⟨n, hn, ?_⟩⟩
    rw [State.advance_cycles, hcost, State.fetch_snd]
    rfl

/-- Settles O41, from what an Update spends. -/
theorem stepAlwaysAnswers : Obligations.StepAlwaysAnswers := by
  intro s
  obtain ⟨t, ht, hpaused | ⟨n, hn, hcost⟩⟩ := step_spends s
  · have hcycles : t.cycles = s.cycles := by rw [hpaused]
    exact ⟨t, ht, by omega, by omega, by omega, fun _ => hpaused⟩
  · have hrange : ∀ n ∈ [4, 8, 12, 16, 20, 24], 0 < n ∧ n ≤ 24 ∧ n % 4 = 0 := by decide
    obtain ⟨hpos, hle, hmod⟩ := hrange n hn
    have hspent : t.cycles - s.cycles = n := by omega
    exact ⟨t, ht, by omega, by omega, by rw [hspent]; exact hmod, fun h => by omega⟩

end Sys2Proof.Machine
end

section
/-! The interrupt requests of the devices (R154, R401): which sources they request, and that they clear none. -/

namespace Sys2Proof.Machine

/-- Every request of `s` is kept, and those added are of the VBlank, STAT and timer sources, bits 0 to 2 (R401). -/
def State.DeviceRequests (s t : State) : Prop := ∃ added : BitVec 3, t.ifBits = s.ifBits ||| added.setWidth 5

theorem State.DeviceRequests.of_eq {s t : State} (h : t.ifBits = s.ifBits) : s.DeviceRequests t := ⟨0, by simp [h]⟩

theorem State.DeviceRequests.trans {s t u : State} (h : s.DeviceRequests t) (k : t.DeviceRequests u) :
    s.DeviceRequests u := by
  obtain ⟨x, hx⟩ := h
  obtain ⟨y, hy⟩ := k
  exact ⟨x ||| y, by rw [hy, hx, BitVec.setWidth_or, BitVec.or_assoc]⟩

theorem State.timerTick_deviceRequests (s : State) : s.DeviceRequests s.timerTick := by
  rcases State.timerUpdate_ifBits s { s.timer with div := s.timer.div + 1 } with h | h
  · exact .of_eq h
  · exact ⟨0b100, h⟩

theorem State.publishAt_deviceRequests (s : State) : s.DeviceRequests s.publishAt := by
  rw [State.publishAt_eq]
  split_ifs
  · exact ⟨0b001, rfl⟩
  · exact .of_eq rfl

theorem State.updateStatLine_deviceRequests (s : State) : s.DeviceRequests s.updateStatLine := by
  have h := s.updateStatLine_ifBits
  split_ifs at h
  · exact ⟨0b010, h⟩
  · exact .of_eq h

theorem State.ppuTick_deviceRequests (s : State) : s.DeviceRequests s.ppuTick := by
  cases h : s.ppu.lcdOn
  case false => rw [State.ppuTick_of_off h]; exact .of_eq rfl
  case true =>
    rw [State.ppuTick_of_on h]
    have hrender : s.DeviceRequests (({ s with ppu := s.ppu.nextDot } : State).renderAt s.ppu.mode) :=
      .of_eq (by rw [State.renderAt_eq])
    exact (hrender.trans (State.publishAt_deviceRequests _)).trans (State.updateStatLine_deviceRequests _)

/-- The devices clear no request and request only VBlank, STAT and the timer (R401, R430, R431). -/
theorem State.advance_deviceRequests (s : State) (n : Nat) : s.DeviceRequests (s.advance n) :=
  State.advance_induct (P := State.DeviceRequests) (fun _ => .of_eq rfl) State.DeviceRequests.trans
    (fun s => s.timerTick_deviceRequests.trans s.timerTick.ppuTick_deviceRequests) s n

/-- Settles O45, from the fields the devices write and the requests they make. -/
theorem devicesOnlyRequest : Obligations.DevicesOnlyRequest := by
  intro n s i
  obtain ⟨added, hadded⟩ := s.advance_deviceRequests n
  refine ⟨s.advance_devicesOnly n, fun hi => ?_, ?_, ?_⟩
  · rw [hadded, BitVec.getLsbD_or, hi, Bool.true_or]
  · simp [hadded]
  · simp [hadded]

end Sys2Proof.Machine
end

section
/-! The disassembler's walk (R160 to R162) as an inductive relation, from which each property of its records follows. -/

namespace Sys2Proof.Machine

/-- The walk from an address (R161, R162): it stops at `last` or before an instruction that would pass it, and otherwise goes on
behind the record at the address. -/
inductive State.Walks (s : State) (last : Nat) : Nat → List DisInstr → Prop where
  | stop (a : Nat) (h : a = last ∨ last < a + (s.disRecord a).length) : State.Walks s last a []
  | next (a : Nat) (out : List DisInstr) (h : a + (s.disRecord a).length ≤ last)
      (tail : State.Walks s last (a + (s.disRecord a).length) out) : State.Walks s last a (s.disRecord a :: out)

/-- `disWalk` is the walk when it has a turn for every byte of the range. -/
theorem State.disWalk_walks (s : State) {last turns a : Nat} (ha : a ≤ last) (hturns : last ≤ a + turns) :
    s.Walks last a (s.disWalk last turns a) := by
  induction turns generalizing a with
  | zero => exact .stop a (.inl (by omega))
  | succ turns ih =>
    have hlen := s.disRecord_length a
    unfold State.disWalk
    dsimp only
    split_ifs with hlt hpass
    · exact .stop a (.inr hpass)
    · exact .next a _ (by omega) (ih (by omega) (by omega))
    · exact .stop a (.inl (by omega))

section
variable {s : State} {last a : Nat} {out : List DisInstr}

theorem State.Walks.stops (h : s.Walks last a out) (hout : out = []) :
    a = last ∨ last < a + (s.disRecord a).length := by
  cases h with
  | stop _ h => exact h
  | next => cases hout

theorem State.Walks.head (h : s.Walks last a out) {r : DisInstr} (hr : out[0]? = some r) : r.addr = a := by
  cases h with
  | stop => cases hr
  | next => cases hr; rfl

theorem State.Walks.adjacent (h : s.Walks last a out) {i : Nat} {r q : DisInstr} (hr : out[i]? = some r)
    (hq : out[i + 1]? = some q) : q.addr = r.addr + r.length := by
  induction h generalizing i with
  | stop => cases hr
  | next a out _ tail ih =>
    cases i with
    | zero => cases hr; exact tail.head hq
    | succ i => exact ih hr hq

theorem State.Walks.mem (h : s.Walks last a out) {r : DisInstr} (hr : r ∈ out) :
    r = s.disRecord r.addr ∧ a ≤ r.addr ∧ r.addr + r.length ≤ last := by
  induction h with
  | stop => cases hr
  | next a out hle _ ih =>
    rcases List.mem_cons.1 hr with rfl | hr
    · exact ⟨rfl, Nat.le_refl a, hle⟩
    · obtain ⟨hrec, hge, hend⟩ := ih hr
      exact ⟨hrec, by omega, hend⟩

theorem State.Walks.last_stops (h : s.Walks last a out) {r : DisInstr} (hr : out.getLast? = some r) :
    r.addr + r.length = last ∨ last < r.addr + r.length + (s.disRecord (r.addr + r.length)).length := by
  induction h with
  | stop => cases hr
  | next a out _ tail ih =>
    cases out with
    | nil => cases hr; exact tail.stops rfl
    | cons q out => exact ih (by rwa [List.getLast?_cons_cons] at hr)

end

/-- Settles O58: the range has a turn for each of its bytes, and each clause is a law of the walk. -/
theorem disassemblyWalk : Obligations.DisassemblyWalk := by
  intro s first last hle _
  have hwalk : s.Walks last first (s.disassemble first last) := s.disWalk_walks hle (by omega)
  refine ⟨fun hout => ?_, fun r => hwalk.head, fun i r q => hwalk.adjacent, fun r => hwalk.mem, fun r hr => ?_⟩
  · have hstop := hwalk.stops hout
    rwa [State.disRecord_length, ← Nat.add_assoc] at hstop
  · have hstop := hwalk.last_stops hr
    rwa [State.disRecord_length, ← Nat.add_assoc] at hstop

end Sys2Proof.Machine
end

section
/-! The 8-bit loads and stores (41_load8.md): the encodings and meanings of the families indexed by a register, and the whole next
state of a load and of a store, from which each row of the two statements is read off. -/

namespace Sys2Proof.Machine

/-! ### The families indexed by a register -/

/-- The register fields stand in bits 5..3 and 2..0 of the opcode (R131, R201). -/
theorem encode_ldRegReg (dst r : R8) : encode (.ldRegReg dst r) = [0b01#2 ++ dst.code ++ r.code] := by
  cases dst <;> cases r <;> rfl

theorem encode_ldRegImm (dst : R8) (n : Byte) : encode (.ldRegImm dst n) = [0b00#2 ++ dst.code ++ 0b110#3, n] := by
  cases dst <;> rfl

theorem encode_ldRegMem (dst : R8) : encode (.ldRegMem dst) = [0b01#2 ++ dst.code ++ 0b110#3] := by
  cases dst <;> rfl

theorem encode_ldMemReg (r : R8) : encode (.ldMemReg r) = [0b01110#5 ++ r.code] := by
  cases r <;> rfl

section
variable (s : State)

theorem exec_ldRegReg (dst r : R8) : exec (.ldRegReg dst r) s = loadRegReg dst r s := by
  cases dst <;> cases r <;> rfl

theorem exec_ldRegImm (dst : R8) (n : Byte) : exec (.ldRegImm dst n) s = loadRegImm dst n s := by
  cases dst <;> rfl

theorem exec_ldRegMem (dst : R8) : exec (.ldRegMem dst) s = loadFrom dst s.regs.hl 8 s := by
  cases dst <;> rfl

theorem exec_ldMemReg (r : R8) : exec (.ldMemReg r) s = storeAt s.regs.hl (s.regs.get8 r) 8 s := by
  cases r <;> rfl

/-! ### The whole next state -/

/-- A load writes its register and the cycle counter (R203, R206, R207, R210, R212, R214). -/
theorem loadFrom_eq (dst : R8) (a : Word) (n : Nat) :
    loadFrom dst a n s = .next { s with regs := s.regs.set8 dst (s.cpuRead a), cycles := s.cycles + n } := rfl

/-- The read is at the old HL; HL takes its new value after A (R216, R217). -/
theorem loadAndStep_eq (v : Word) :
    loadAndStep v s =
      .next { s with
        regs := ({ s.regs with a := s.cpuRead s.regs.hl } : Regs).setHl v, cycles := s.cycles + 8 } := rfl

/-- The store is at the old HL and writes no register; HL then takes its new value (R218, R219). -/
theorem storeAndStep_eq (v : Word) :
    storeAndStep v s =
      .next { s.cpuWrite s.regs.hl s.regs.a with regs := s.regs.setHl v, cycles := s.cycles + 8 } := by
  unfold storeAndStep State.setReg16
  rw [State.cpuWrite_regs, State.store_charge]; rfl

end

/-! ### The statements -/

/-- Settles O6: each row is a register-indexed family or a load into A, and its next state is that of its shape. -/
theorem registerLoads : Obligations.RegisterLoads := by
  intro s dst r n a
  rw [← loByte_eq_extract, ← hiByte_eq_extract, ← highPage_eq n, ← highPage_eq s.regs.c]
  exact ⟨⟨encode_ldRegReg dst r, exec_ldRegReg s dst r⟩, ⟨encode_ldRegImm dst n, exec_ldRegImm s dst n⟩,
    ⟨encode_ldRegMem dst, exec_ldRegMem s dst⟩, ⟨rfl, loadFrom_eq s .a s.regs.bc 8⟩,
    ⟨rfl, loadFrom_eq s .a s.regs.de 8⟩, ⟨rfl, loadFrom_eq s .a a 16⟩, ⟨rfl, loadFrom_eq s .a (highPage n) 12⟩,
    ⟨rfl, loadFrom_eq s .a (highPage s.regs.c) 8⟩, ⟨rfl, loadAndStep_eq s (s.regs.hl + 1)⟩,
    ⟨rfl, loadAndStep_eq s (s.regs.hl - 1)⟩⟩

/-- Settles O7: each row is one store by `storeAt` or `storeAndStep`, at the address and with the byte its rule names. -/
theorem registerStores : Obligations.RegisterStores := by
  intro s r n a
  rw [← loByte_eq_extract, ← hiByte_eq_extract, ← highPage_eq n, ← highPage_eq s.regs.c]
  exact ⟨⟨encode_ldMemReg r, (exec_ldMemReg s r).trans (storeAt_eq _ _ 8 s)⟩,
    ⟨rfl, storeAt_eq s.regs.hl n 12 s⟩, ⟨rfl, storeAt_eq s.regs.bc s.regs.a 8 s⟩,
    ⟨rfl, storeAt_eq s.regs.de s.regs.a 8 s⟩, ⟨rfl, storeAt_eq a s.regs.a 16 s⟩,
    ⟨rfl, storeAt_eq (highPage n) s.regs.a 12 s⟩, ⟨rfl, storeAt_eq (highPage s.regs.c) s.regs.a 8 s⟩,
    ⟨rfl, storeAndStep_eq s (s.regs.hl + 1)⟩, ⟨rfl, storeAndStep_eq s (s.regs.hl - 1)⟩⟩

end Sys2Proof.Machine
end

section
/-! The 16-bit loads and the stack (42_load16.md): the encodings and meanings of the families indexed by a pair, and the whole next
state of each row. -/

namespace Sys2Proof.Machine

/-! ### The families indexed by a pair -/

/-- The pair field stands in bits 5..4 of the opcode, and the operand is low byte first (R133, R230). -/
theorem encode_ldPairImm (p : R16) (n : Word) :
    encode (.ldPairImm p n) = [0b00#2 ++ p.code ++ 0b0001#4, loByte n, hiByte n] := by
  cases p <;> rfl

theorem encode_pushPair (q : R16s) : encode (.pushPair q) = [0b11#2 ++ q.code ++ 0b0101#4] := by
  cases q <;> rfl

theorem encode_popPair (q : R16s) : encode (.popPair q) = [0b11#2 ++ q.code ++ 0b0001#4] := by
  cases q <;> rfl

section
variable (s : State)

theorem exec_ldPairImm (p : R16) (n : Word) : exec (.ldPairImm p n) s = loadPairImm p n s := by
  cases p <;> rfl

theorem exec_pushPair (q : R16s) : exec (.pushPair q) s = pushPair q s := by
  cases q <;> rfl

theorem exec_popPair (q : R16s) : exec (.popPair q) s = popPair q s := by
  cases q <;> rfl

/-! ### The whole next state -/

/-- Two stores, low byte first, and no register written (R76, R231). -/
theorem storeSp_eq (a : Word) :
    storeSp a s =
      .next { (s.cpuWrite a (loByte s.regs.sp)).cpuWrite (a + 1) (hiByte s.regs.sp) with
        regs := s.regs, cycles := s.cycles + 20 } := by
  have h := storeAt_eq (a + 1) (hiByte s.regs.sp) 20 (s.cpuWrite a (loByte s.regs.sp))
  rw [State.cpuWrite_regs, State.cpuWrite_cycles] at h
  exact h

/-- A displacement byte is added to a word as the signed number it stands for, modulo 2^16 (R7, R233). -/
theorem add_sext8_eq_ofInt (v : Word) (e : Byte) : v + sext8 e = BitVec.ofInt 16 ((v.toNat : Int) + e.toInt) := by
  rw [BitVec.ofInt_add, BitVec.ofInt_natCast, BitVec.ofNat_toNat, BitVec.setWidth_eq]
  rfl

/-- HL takes the signed sum, F the flags of the unsigned low-byte add (R233). -/
theorem loadHlSp_eq (e : Byte) :
    loadHlSp e s =
      .next { s with
        regs :=
          { s.regs.setHl (BitVec.ofInt 16 ((s.regs.sp.toNat : Int) + e.toInt)) with
            f := flagByte false false (decide (s.regs.sp.toNat % 16 + e.toNat % 16 > 0xF))
              (decide (s.regs.sp.toNat % 256 + e.toNat > 0xFF)) }
        cycles := s.cycles + 12 } := by
  rw [← add_sext8_eq_ofInt]
  rfl

/-- Two stores below the old SP, high byte first (R77, R234). -/
theorem pushPair_eq (q : R16s) :
    pushPair q s =
      .next { (s.cpuWrite (s.regs.sp - 1) (hiByte (s.regs.get16s q))).cpuWrite (s.regs.sp - 2)
          (loByte (s.regs.get16s q)) with
        regs := { s.regs with sp := s.regs.sp - 2 }, cycles := s.cycles + 16 } :=
  congrArg Host.Outcome.next (s.push16_charge (s.regs.get16s q) 16)

/-- Both bytes are read at the old SP; a read changes nothing (R77, R80, R235). -/
theorem popPair_eq (q : R16s) :
    popPair q s =
      .next { s with
        regs := ({ s.regs with sp := s.regs.sp + 2 } : Regs).set16s q (wordOf (s.cpuRead (s.regs.sp + 1))
          (s.cpuRead s.regs.sp))
        cycles := s.cycles + 12 } := rfl

end

/-! ### The statement -/

/-- Settles O8: each row is its encoding and the next state of its shape. -/
theorem sixteenBitLoads : Obligations.SixteenBitLoads := by
  intro s p q n e
  simp only [← loByte_eq_extract, ← hiByte_eq_extract]
  exact ⟨⟨encode_ldPairImm p n, exec_ldPairImm s p n⟩, ⟨rfl, storeSp_eq s n⟩, ⟨rfl, rfl⟩, ⟨rfl, loadHlSp_eq s e⟩,
    ⟨encode_pushPair q, (exec_pushPair s q).trans (pushPair_eq s q)⟩,
    ⟨encode_popPair q, (exec_popPair s q).trans (popPair_eq s q)⟩⟩

end Sys2Proof.Machine
end

section
/-! 8-bit arithmetic and logic (43_alu8.md): the encodings and meanings of the families indexed by a register, the flag
computations in the integers, and the whole next state of each shape, from which each row of the statements is read off. -/

namespace Sys2Proof.Machine

/-! ### The families indexed by a register -/

/-- The operation stands in bits 5..3 of the opcode and the register field in bits 2..0 (R131, R252 to R275). -/
theorem encode_aluReg (op : Alu) (r : R8) : encode (.aluReg op r) = [0b10#2 ++ op.code ++ r.code] := by
  cases op <;> cases r <;> rfl

/-- The register field of INC and DEC stands in bits 5..3 of the opcode (R276, R278). -/
theorem encode_incReg (r : R8) : encode (.incReg r) = [0b00#2 ++ r.code ++ 0b100#3] := by
  cases r <;> rfl

theorem encode_decReg (r : R8) : encode (.decReg r) = [0b00#2 ++ r.code ++ 0b101#3] := by
  cases r <;> rfl

section
variable (s : State)

theorem exec_aluReg (op : Alu) (r : R8) : exec (.aluReg op r) s = aluReg op r s := by
  cases op <;> cases r <;> rfl

theorem exec_incReg (r : R8) : exec (.incReg r) s = incReg r s := by
  cases r <;> rfl

theorem exec_decReg (r : R8) : exec (.decReg r) s = decReg r s := by
  cases r <;> rfl

end

/-! ### The flag computations -/

/-- A result is zero when the exact sum is a multiple of 256 (R6, R250). -/
theorem ofNat8_beq_zero (n : Nat) : (BitVec.ofNat 8 n == 0) = decide (n % 256 = 0) :=
  decide_eq_decide.mpr BitVec.toNat_inj.symm

/-- A result is zero when the exact difference is a multiple of 256 (R6, R251). -/
theorem ofInt8_beq_zero (d : Int) : (BitVec.ofInt 8 d == 0) = decide (d % 256 = 0) := by
  refine decide_eq_decide.mpr (BitVec.toNat_inj.symm.trans ?_)
  rw [BitVec.toNat_ofInt]
  show (d % 256).toNat = 0 ↔ d % 256 = 0
  omega

/-- `add8` in the naturals: Z is read from the exact sum (R250). -/
theorem add8_eq (a v : Byte) (cin : Bool) :
    add8 a v cin =
      ⟨BitVec.ofNat 8 (a.toNat + v.toNat + cin.toNat),
        flagByte (decide ((a.toNat + v.toNat + cin.toNat) % 256 = 0)) false
          (decide (a.toNat % 16 + v.toNat % 16 + cin.toNat > 0xF)) (decide (a.toNat + v.toNat + cin.toNat > 0xFF))⟩ := by
  rw [← ofNat8_beq_zero]
  rfl

/-- A difference is negative when the minuend is less than what is taken from it: a borrow (R251). -/
theorem sub_neg_eq_borrow (x y z : Nat) : decide ((x : Int) - y - z < 0) = decide (x < y + z) :=
  decide_eq_decide.mpr (by omega)

/-- `sub8` in the integers: Z is read from the exact difference, and a borrow is a comparison of naturals (R251). -/
theorem sub8_eq (a v : Byte) (bin : Bool) :
    sub8 a v bin =
      ⟨BitVec.ofInt 8 ((a.toNat : Int) - v.toNat - bin.toNat),
        flagByte (decide (((a.toNat : Int) - v.toNat - bin.toNat) % 256 = 0)) true
          (decide (a.toNat % 16 < v.toNat % 16 + bin.toNat)) (decide (a.toNat < v.toNat + bin.toNat))⟩ := by
  rw [← sub_neg_eq_borrow (a.toNat % 16), ← sub_neg_eq_borrow a.toNat, ← ofInt8_beq_zero]
  rfl

/-- CP leaves A and takes the flags of the subtraction (R273). -/
theorem cp8_eq {a v : Byte} {o : Alu8} (h : sub8 a v false = o) (carry : Bool) : Alu8.of .cp a v carry = ⟨a, o.f⟩ :=
  h ▸ rfl

/-- INC in the naturals: Z at 0xFF and H at a low nibble of 0xF; C is kept (R276). -/
theorem inc8_eq (v : Byte) (carry : Bool) :
    inc8 v carry =
      ⟨BitVec.ofNat 8 (v.toNat + 1), flagByte (decide (v = 0xFF)) false (decide (v.toNat % 16 = 0xF)) carry⟩ := by
  have hres : BitVec.ofNat 8 (v.toNat + 1) = v + 1 := by
    rw [BitVec.ofNat_add, BitVec.ofNat_toNat, BitVec.setWidth_eq]
    rfl
  have hz : (v + 1 == 0) = decide (v = 0xFF) := decide_eq_decide.mpr (by bv_omega)
  rw [hres, ← hz]
  rfl

/-- DEC in the integers: Z at 0x01 and H at a low nibble of 0; C is kept (R278). -/
theorem dec8_eq (v : Byte) (carry : Bool) :
    dec8 v carry =
      ⟨BitVec.ofInt 8 ((v.toNat : Int) - 1), flagByte (decide (v = 0x01)) true (decide (v.toNat % 16 = 0x0)) carry⟩ := by
  have hres : BitVec.ofInt 8 ((v.toNat : Int) - 1) = v - 1 := by
    rw [Int.sub_eq_add_neg, BitVec.ofInt_add, BitVec.ofInt_natCast, BitVec.ofNat_toNat, BitVec.setWidth_eq]
    exact (BitVec.sub_eq_add_neg v 1).symm
  have hz : (v - 1 == 0) = decide (v = 0x01) := decide_eq_decide.mpr (by bv_omega)
  rw [hres, ← hz]
  rfl

/-! ### The corrections of DAA -/

/-- Whether DAA corrects the high digit, which is also the C it leaves (R280). -/
def daaHigh (a : Byte) (n c : Bool) : Bool := if n then c else c || decide (a.toNat > 0x99)

/-- Whether DAA corrects the low digit, judged on A as it was (R280). -/
def daaLow (a : Byte) (n h : Bool) : Bool := if n then h else h || decide (a.toNat % 16 > 0x09)

/-- Both corrections as one amount (R280). -/
def daaAmount (high low : Bool) : Int := (if high then 0x60 else 0) + (if low then 0x06 else 0)

/-- A corrected by the amount in one step, down after a subtraction and up after an addition (R280). -/
def daaResult (a : Byte) (n h c : Bool) : Byte :=
  let amount := daaAmount (daaHigh a n c) (daaLow a n h)
  BitVec.ofInt 8 (if n then (a.toNat : Int) - amount else a.toNat + amount)

/-- The high correction leaves the low digit, so the low one may be judged before it. -/
theorem high_correction_mod_16 (x : Nat) (high : Bool) : (if high then x + 0x60 else x) % 16 = x % 16 := by
  cases high
  · rfl
  · exact Nat.add_mul_mod_self_right x 6 16

/-- Adding the corrections one after the other adds the amount. -/
theorem add_corrections (x : Nat) (high low : Bool) :
    ((if low then (if high then x + 0x60 else x) + 0x06 else if high then x + 0x60 else x : Nat) : Int) =
      x + daaAmount high low := by
  unfold daaAmount
  split_ifs <;> omega

/-- Subtracting the corrections one after the other subtracts the amount. -/
theorem sub_corrections (x : Int) (high low : Bool) :
    (if low then (if high then x - 0x60 else x) - 0x06 else if high then x - 0x60 else x) = x - daaAmount high low := by
  unfold daaAmount
  split_ifs <;> omega

/-- The two corrections of DAA are one, so that its result is `daaResult` (R280). -/
theorem daa8_eq (a : Byte) (n h c : Bool) :
    daa8 a n h c = ⟨daaResult a n h c, flagByte (daaResult a n h c == 0) n false (daaHigh a n c)⟩ := by
  cases n
  case true =>
    have hres : daaResult a true h c = BitVec.ofInt 8 _ :=
      congrArg (BitVec.ofInt 8) (sub_corrections a.toNat c h).symm
    rw [hres]
    rfl
  case false =>
    have hres : daaResult a false h c = BitVec.ofInt 8 _ :=
      congrArg (BitVec.ofInt 8) (add_corrections a.toNat (daaHigh a false c) (daaLow a false h)).symm
    rw [hres, BitVec.ofInt_natCast]
    unfold daaLow
    rw [← high_correction_mod_16 a.toNat (daaHigh a false c)]
    rfl

/-! ### The whole next state -/

section
variable (s : State)

/-- An ALU result goes to A and F, and the cost to the cycle counter; nothing else changes (R252, R280). -/
theorem setAlu_next {o : Alu8} {res f : Byte} (h : o = ⟨res, f⟩) (n : Nat) :
    (.next ((s.setAlu o).charge n) : Result) =
      .next { s with regs := { s.regs with a := res, f := f }, cycles := s.cycles + n } := by
  rw [h]
  rfl

/-- The new value goes to the register and F takes the flags (R276, R278). -/
theorem setReg8_setF_next (r : R8) {o : Alu8} {res f : Byte} (h : o = ⟨res, f⟩) (n : Nat) :
    (.next (((s.setReg8 r o.res).setF o.f).charge n) : Result) =
      .next { s with regs := { s.regs.set8 r res with f := f }, cycles := s.cycles + n } := by
  rw [h]
  rfl

/-- The new value is stored and F takes the flags; no other register changes (R277, R279). -/
theorem store_setF_next (a : Word) {o : Alu8} {res f : Byte} (h : o = ⟨res, f⟩) (n : Nat) :
    (.next (((s.cpuWrite a o.res).setF o.f).charge n) : Result) =
      .next { s.cpuWrite a res with regs := { s.regs with f := f }, cycles := s.cycles + n } := by
  rw [h]
  exact congrArg Host.Outcome.next (s.store_setF a res f n)

end

/-! ### The statements -/

/-- Settles O9: each row sets A and F to `add8` of A and its operand. -/
theorem addAndAddWithCarry : Obligations.AddAndAddWithCarry := by
  intro s r n
  have row (v : Byte) (cin : Bool) (cost : Nat) := setAlu_next s (add8_eq s.regs.a v cin) cost
  exact ⟨⟨encode_aluReg .add r, (exec_aluReg s .add r).trans (row (s.regs.get8 r) false 4)⟩,
    ⟨rfl, row (s.cpuRead s.regs.hl) false 8⟩, ⟨rfl, row n false 8⟩,
    ⟨encode_aluReg .adc r, (exec_aluReg s .adc r).trans (row (s.regs.get8 r) s.regs.fc 4)⟩,
    ⟨rfl, row (s.cpuRead s.regs.hl) s.regs.fc 8⟩, ⟨rfl, row n s.regs.fc 8⟩⟩

/-- Settles O10: each row sets A and F to `sub8` of A and its operand, and CP sets F only. -/
theorem subtractAndCompare : Obligations.SubtractAndCompare := by
  intro s r n
  have row (v : Byte) (bin : Bool) (cost : Nat) := setAlu_next s (sub8_eq s.regs.a v bin) cost
  have compareRow (v : Byte) (cost : Nat) := setAlu_next s (cp8_eq (sub8_eq s.regs.a v false) s.regs.fc) cost
  exact ⟨⟨encode_aluReg .sub r, (exec_aluReg s .sub r).trans (row (s.regs.get8 r) false 4)⟩,
    ⟨rfl, row (s.cpuRead s.regs.hl) false 8⟩, ⟨rfl, row n false 8⟩,
    ⟨encode_aluReg .sbc r, (exec_aluReg s .sbc r).trans (row (s.regs.get8 r) s.regs.fc 4)⟩,
    ⟨rfl, row (s.cpuRead s.regs.hl) s.regs.fc 8⟩, ⟨rfl, row n s.regs.fc 8⟩,
    ⟨encode_aluReg .cp r, (exec_aluReg s .cp r).trans (compareRow (s.regs.get8 r) 4)⟩,
    ⟨rfl, compareRow (s.cpuRead s.regs.hl) 8⟩, ⟨rfl, compareRow n 8⟩⟩

/-- Settles O11: each row sets A and F to the bitwise result and its flags, as the logic operations define them. -/
theorem logicResults : Obligations.LogicResults := by
  intro s r n
  exact ⟨⟨encode_aluReg .and r, exec_aluReg s .and r⟩, ⟨rfl, rfl⟩, ⟨rfl, rfl⟩,
    ⟨encode_aluReg .xor r, exec_aluReg s .xor r⟩, ⟨rfl, rfl⟩, ⟨rfl, rfl⟩,
    ⟨encode_aluReg .or r, exec_aluReg s .or r⟩, ⟨rfl, rfl⟩, ⟨rfl, rfl⟩⟩

/-- Settles O12: each row writes the result back to its register or to the byte at HL, and sets F. -/
theorem incrementAndDecrement : Obligations.IncrementAndDecrement := by
  intro s r
  have hinc (v : Byte) := inc8_eq v s.regs.fc
  have hdec (v : Byte) := dec8_eq v s.regs.fc
  exact ⟨⟨encode_incReg r, (exec_incReg s r).trans (setReg8_setF_next s r (hinc (s.regs.get8 r)) 4)⟩,
    ⟨rfl, store_setF_next s s.regs.hl (hinc (s.cpuRead s.regs.hl)) 12⟩,
    ⟨encode_decReg r, (exec_decReg s r).trans (setReg8_setF_next s r (hdec (s.regs.get8 r)) 4)⟩,
    ⟨rfl, store_setF_next s s.regs.hl (hdec (s.cpuRead s.regs.hl)) 12⟩⟩

/-- Settles O13: DAA is the one correction `daa8_eq` states; CPL, SCF and CCF are their definitions. -/
theorem accumulatorAdjustments : Obligations.AccumulatorAdjustments := fun s =>
  ⟨⟨rfl, setAlu_next s (daa8_eq s.regs.a s.regs.fn s.regs.fh s.regs.fc) 4⟩, ⟨rfl, rfl⟩, ⟨rfl, rfl⟩, ⟨rfl, rfl⟩⟩

end Sys2Proof.Machine
end

section
/-! 16-bit arithmetic (44_alu16.md): the encodings and meanings of the families indexed by a pair, and the whole next state of each
row. -/

namespace Sys2Proof.Machine

/-! ### The families indexed by a pair -/

/-- The pair field stands in bits 5..4 of the opcode (R133, R290). -/
theorem encode_addHlPair (p : R16) : encode (.addHlPair p) = [0b00#2 ++ p.code ++ 0b1001#4] := by
  cases p <;> rfl

theorem encode_incPair (p : R16) : encode (.incPair p) = [0b00#2 ++ p.code ++ 0b0011#4] := by
  cases p <;> rfl

theorem encode_decPair (p : R16) : encode (.decPair p) = [0b00#2 ++ p.code ++ 0b1011#4] := by
  cases p <;> rfl

section
variable (s : State)

theorem exec_addHlPair (p : R16) : exec (.addHlPair p) s = addHlPair p s := by
  cases p <;> rfl

theorem exec_incPair (p : R16) : exec (.incPair p) s = incPair p s := by
  cases p <;> rfl

theorem exec_decPair (p : R16) : exec (.decPair p) s = decPair p s := by
  cases p <;> rfl

end

/-! ### Words as numbers modulo 2^16 -/

theorem add_one_eq_ofNat (v : Word) : v + 1 = BitVec.ofNat 16 (v.toNat + 1) := by
  rw [BitVec.ofNat_add, BitVec.ofNat_toNat, BitVec.setWidth_eq]
  rfl

/-- Subtracting 1 is adding the byte 0xFF as a displacement (R292). -/
theorem sub_one_eq_ofInt (v : Word) : v - 1 = BitVec.ofInt 16 ((v.toNat : Int) - 1) :=
  (BitVec.sub_eq_add_neg v 1).trans (add_sext8_eq_ofInt v 0xFF)

/-! ### The whole next state -/

section
variable (s : State)

/-- HL takes the sum, and F keeps Z and takes the carries out of bits 11 and 15 (R290). -/
theorem addHlPair_eq (p : R16) :
    addHlPair p s =
      .next { s with
        regs :=
          { s.regs.setHl (BitVec.ofNat 16 (s.regs.hl.toNat + (s.regs.get16 p).toNat)) with
            f := flagByte s.regs.fz false
              (decide (s.regs.hl.toNat % 4096 + (s.regs.get16 p).toNat % 4096 > 0xFFF))
              (decide (s.regs.hl.toNat + (s.regs.get16 p).toNat > 0xFFFF)) }
        cycles := s.cycles + 8 } := rfl

/-- INC rr writes its pair and the cycle counter, F not among them (R291). -/
theorem incPair_eq (p : R16) :
    incPair p s =
      .next { s with
        regs := s.regs.set16 p (BitVec.ofNat 16 ((s.regs.get16 p).toNat + 1)), cycles := s.cycles + 8 } := by
  rw [← add_one_eq_ofNat]
  rfl

/-- DEC rr writes its pair and the cycle counter, F not among them (R292). -/
theorem decPair_eq (p : R16) :
    decPair p s =
      .next { s with
        regs := s.regs.set16 p (BitVec.ofInt 16 (((s.regs.get16 p).toNat : Int) - 1)), cycles := s.cycles + 8 } := by
  rw [← sub_one_eq_ofInt]
  rfl

/-- SP takes the signed sum, F the flags of the unsigned low-byte add, as in `loadHlSp_eq` (R233, R293). -/
theorem addSp_eq (e : Byte) :
    addSp e s =
      .next { s with
        regs := { s.regs with
          sp := BitVec.ofInt 16 ((s.regs.sp.toNat : Int) + e.toInt)
          f := flagByte false false (decide (s.regs.sp.toNat % 16 + e.toNat % 16 > 0xF))
            (decide (s.regs.sp.toNat % 256 + e.toNat > 0xFF)) }
        cycles := s.cycles + 16 } := by
  rw [← add_sext8_eq_ofInt]
  rfl

end

/-! ### The statement -/

/-- Settles O14: each row is its encoding and the next state of its shape. -/
theorem sixteenBitArithmetic : Obligations.SixteenBitArithmetic := by
  intro s p e
  exact ⟨⟨encode_addHlPair p, (exec_addHlPair s p).trans (addHlPair_eq s p)⟩,
    ⟨encode_incPair p, (exec_incPair s p).trans (incPair_eq s p)⟩,
    ⟨encode_decPair p, (exec_decPair s p).trans (decPair_eq s p)⟩, ⟨rfl, addSp_eq s e⟩⟩

end Sys2Proof.Machine
end

section
/-! Rotates, shifts and bit operations (45_rotate_shift_bit.md): the encodings and meanings of the prefixed families, each rotate
or shift as a number, RES and SET bit by bit, and the whole next state of each shape, from which each row of the statements is read
off. -/

namespace Sys2Proof.Machine

/-! ### The prefixed families -/

/-- The operation stands in bits 5..3 of the second byte and the register field in bits 2..0 (R131, R138, R304). -/
theorem encode_rotReg (op : Rot) (r : R8) : encode (.rotReg op r) = [0xCB, 0b00#2 ++ op.code ++ r.code] := by
  cases op <;> cases r <;> rfl

/-- The register field 6 names the byte at HL (R132, R304). -/
theorem encode_rotMem (op : Rot) : encode (.rotMem op) = [0xCB, 0b00#2 ++ op.code ++ 0b110#3] := by
  cases op <;> rfl

/-- The bit number stands in bits 5..3 of the second byte and the register field in bits 2..0 (R136, R321). -/
theorem encode_bitReg (n : BitNo) (r : R8) : encode (.bitReg n r) = [0xCB, 0b01#2 ++ n.code ++ r.code] := by
  cases n <;> cases r <;> rfl

theorem encode_bitMem (n : BitNo) : encode (.bitMem n) = [0xCB, 0b01#2 ++ n.code ++ 0b110#3] := by
  cases n <;> rfl

theorem encode_resReg (n : BitNo) (r : R8) : encode (.resReg n r) = [0xCB, 0b10#2 ++ n.code ++ r.code] := by
  cases n <;> cases r <;> rfl

theorem encode_resMem (n : BitNo) : encode (.resMem n) = [0xCB, 0b10#2 ++ n.code ++ 0b110#3] := by
  cases n <;> rfl

theorem encode_setReg (n : BitNo) (r : R8) : encode (.setReg n r) = [0xCB, 0b11#2 ++ n.code ++ r.code] := by
  cases n <;> cases r <;> rfl

theorem encode_setMem (n : BitNo) : encode (.setMem n) = [0xCB, 0b11#2 ++ n.code ++ 0b110#3] := by
  cases n <;> rfl

section
variable (s : State)

theorem exec_rotReg (op : Rot) (r : R8) : exec (.rotReg op r) s = rotReg op r s := by
  cases op <;> cases r <;> rfl

theorem exec_rotMem (op : Rot) : exec (.rotMem op) s = rotMem op s := by
  cases op <;> rfl

theorem exec_bitReg (n : BitNo) (r : R8) : exec (.bitReg n r) s = bitReg n r s := by
  cases n <;> cases r <;> rfl

theorem exec_bitMem (n : BitNo) : exec (.bitMem n) s = bitMem n s := by
  cases n <;> rfl

theorem exec_resReg (n : BitNo) (r : R8) : exec (.resReg n r) s = resReg n r s := by
  cases n <;> cases r <;> rfl

theorem exec_resMem (n : BitNo) : exec (.resMem n) s = resMem n s := by
  cases n <;> rfl

theorem exec_setReg (n : BitNo) (r : R8) : exec (.setReg n r) s = setReg n r s := by
  cases n <;> cases r <;> rfl

theorem exec_setMem (n : BitNo) : exec (.setMem n) s = setMem n s := by
  cases n <;> rfl

end

/-! ### Rotates and shifts as numbers -/

/-- A bit as a byte, the form in which it joins a shifted byte. -/
theorem setWidth_ofBool_eq_ofNat (c : Bool) : (BitVec.ofBool c).setWidth 8 = BitVec.ofNat 8 c.toNat := by
  cases c <;> rfl

/-- Bits that fit the places a left shift frees are added to it. -/
theorem shiftLeft_or_eq_ofNat (v : Byte) {k low : Nat} (h : low < 2 ^ k) :
    v <<< k ||| BitVec.ofNat 8 low = BitVec.ofNat 8 (v.toNat * 2 ^ k + low) := by
  rw [← Nat.shiftLeft_eq, Nat.shiftLeft_add_eq_or_of_lt h, BitVec.ofNat_or]
  rfl

/-- A logical right shift divides by a power of two (R6). -/
theorem ushiftRight_eq_ofNat (v : Byte) (k : Nat) : v >>> k = BitVec.ofNat 8 (v.toNat / 2 ^ k) := by
  rw [← Nat.shiftRight_eq_div_pow, ← BitVec.toNat_ushiftRight, BitVec.ofNat_toNat, BitVec.setWidth_eq]

/-- Shifting left by one place with `c` coming in at bit 0 (R305, R309). -/
theorem shiftLeft_bit_in (v : Byte) (c : Bool) :
    v <<< 1 ||| (BitVec.ofBool c).setWidth 8 = BitVec.ofNat 8 (v.toNat * 2 + c.toNat) := by
  rw [setWidth_ofBool_eq_ofNat]
  exact shiftLeft_or_eq_ofNat v c.toNat_lt

/-- Shifting right by one place with `c` coming in at bit 7 (R307, R311). -/
theorem shiftRight_bit_in (v : Byte) (c : Bool) :
    v >>> 1 ||| (BitVec.ofBool c).setWidth 8 <<< 7 = BitVec.ofNat 8 (v.toNat / 2 + c.toNat * 128) := by
  have hlt : v.toNat / 2 ^ 1 < 2 ^ 7 := by have := v.isLt; omega
  have hc : ((BitVec.ofBool c).setWidth 8).toNat = c.toNat := by cases c <;> rfl
  rw [BitVec.or_comm, ushiftRight_eq_ofNat, shiftLeft_or_eq_ofNat _ hlt, hc, Nat.add_comm]
  rfl

theorem getLsbD_zero_toNat (v : Byte) : (v.getLsbD 0).toNat = v.toNat % 2 := by
  rw [← BitVec.testBit_toNat, Nat.toNat_testBit, Nat.pow_zero, Nat.div_one]

theorem getLsbD_seven_toNat (v : Byte) : (v.getLsbD 7).toNat = v.toNat / 128 := by
  rw [← BitVec.testBit_toNat, Nat.toNat_testBit]
  have := v.isLt
  omega

/-- The bit SRA keeps is bit 7 in its own place (R315). -/
theorem and_sign_eq (v : Byte) : v &&& (0x80 : Byte) = (BitVec.ofBool (v.getLsbD 7)).setWidth 8 <<< 7 := by
  have h := BitVec.and_twoPow v 7
  cases hv : v.getLsbD 7 <;> rw [hv] at h <;> exact h

/-- The result of each rotate and shift in the naturals, before it is narrowed to a byte (R305 to R320). -/
def Shifted.number (op : Rot) (v : Byte) (carry : Bool) : Nat :=
  match op with
  | .rlc => v.toNat * 2 + v.toNat / 128
  | .rrc => v.toNat / 2 + v.toNat % 2 * 128
  | .rl => v.toNat * 2 + carry.toNat
  | .rr => v.toNat / 2 + carry.toNat * 128
  | .sla => v.toNat * 2
  | .sra => v.toNat / 2 + v.toNat / 128 * 128
  | .swap => v.toNat % 16 * 16 + v.toNat / 16
  | .srl => v.toNat / 2

/-- A rotate brings in the bit it moves out, RL and RR the carry, SRA bit 7 and SLA and SRL a 0 (R305 to R320). -/
theorem Shifted.of_res (op : Rot) (v : Byte) (carry : Bool) :
    (Shifted.of op v carry).res = BitVec.ofNat 8 (Shifted.number op v carry) := by
  cases op
  case rlc => exact (shiftLeft_bit_in v (v.getLsbD 7)).trans (by rw [getLsbD_seven_toNat]; rfl)
  case rrc => exact (shiftRight_bit_in v (v.getLsbD 0)).trans (by rw [getLsbD_zero_toNat]; rfl)
  case rl => exact shiftLeft_bit_in v carry
  case rr => exact shiftRight_bit_in v carry
  case sla => exact BitVec.or_zero.symm.trans (shiftLeft_bit_in v false)
  case sra =>
    show v >>> 1 ||| v &&& 0x80 = _
    rw [and_sign_eq, shiftRight_bit_in, getLsbD_seven_toNat]
    rfl
  case swap =>
    have hlt : v.toNat / 2 ^ 4 < 2 ^ 4 := by have := v.isLt; omega
    show v <<< 4 ||| v >>> 4 = _
    rw [ushiftRight_eq_ofNat, shiftLeft_or_eq_ofNat v hlt]
    refine BitVec.eq_of_toNat_eq ?_
    show (v.toNat * 16 + v.toNat / 16) % 256 = (v.toNat % 16 * 16 + v.toNat / 16) % 256
    omega
  case srl => exact BitVec.or_zero.symm.trans (shiftRight_bit_in v false)

/-- The result and F of a prefixed rotate or shift: Z is read from the number (R304). -/
theorem Shifted.result_eq (op : Rot) (v : Byte) (carry : Bool) :
    (⟨(Shifted.of op v carry).res, (Shifted.of op v carry).flags⟩ : Alu8) =
      ⟨BitVec.ofNat 8 (Shifted.number op v carry),
        flagByte (decide (Shifted.number op v carry % 256 = 0)) false false (Shifted.of op v carry).out⟩ := by
  rw [← ofNat8_beq_zero, ← Shifted.of_res]
  rfl

/-- The result and F of a rotate of A: Z is 0 whatever the number is (R300). -/
theorem Shifted.resultA_eq (op : Rot) (v : Byte) (carry : Bool) :
    (⟨(Shifted.of op v carry).res, (Shifted.of op v carry).flagsA⟩ : Alu8) =
      ⟨BitVec.ofNat 8 (Shifted.number op v carry), flagByte false false false (Shifted.of op v carry).out⟩ := by
  rw [← Shifted.of_res]
  rfl

/-! ### RES and SET bit by bit -/

/-- The mask of a bit holds that bit and no other (R323, R325). -/
theorem bitMask_getLsbD {n k : Nat} (hk : k < 8) : (bitMask n).getLsbD k = decide (k = n) := by
  have h : (bitMask n).getLsbD k = (decide (n < 8) && decide (n = k)) := BitVec.getLsbD_twoPow n k
  rw [h, ← Bool.decide_and]
  exact decide_eq_decide.mpr (by omega)

/-- RES is the byte that differs at most in its bit, which is 0 (R323). -/
theorem and_not_bitMask_eq {w res : Byte} {n : Nat}
    (h : ∀ k, k < 8 → res.getLsbD k = (w.getLsbD k && decide (k ≠ n))) : w &&& ~~~bitMask n = res := by
  refine BitVec.eq_of_getLsbD_eq fun k hk => ?_
  rw [h k hk, BitVec.getLsbD_and, BitVec.getLsbD_not, bitMask_getLsbD hk, decide_not, decide_eq_true hk, Bool.true_and]

/-- SET is the byte that differs at most in its bit, which is 1 (R325). -/
theorem or_bitMask_eq {w res : Byte} {n : Nat}
    (h : ∀ k, k < 8 → res.getLsbD k = (w.getLsbD k || decide (k = n))) : w ||| bitMask n = res := by
  refine BitVec.eq_of_getLsbD_eq fun k hk => ?_
  rw [h k hk, BitVec.getLsbD_or, bitMask_getLsbD hk]

/-! ### The whole next state -/

section
variable (s : State)

/-- A rotate of A sets A to its number and F to C alone (R300). -/
theorem rotateA_eq (op : Rot) :
    rotateA op s =
      .next { s with
        regs := { s.regs with
          a := BitVec.ofNat 8 (Shifted.number op s.regs.a s.regs.fc)
          f := flagByte false false false (Shifted.of op s.regs.a s.regs.fc).out }
        cycles := s.cycles + 4 } :=
  setAlu_next s (Shifted.resultA_eq op s.regs.a s.regs.fc) 4

/-- A prefixed rotate or shift writes its number to its register, and F (R304). -/
theorem rotReg_eq (op : Rot) (r : R8) :
    rotReg op r s =
      .next { s with
        regs := { s.regs.set8 r (BitVec.ofNat 8 (Shifted.number op (s.regs.get8 r) s.regs.fc)) with
          f := flagByte (decide (Shifted.number op (s.regs.get8 r) s.regs.fc % 256 = 0)) false false
            (Shifted.of op (s.regs.get8 r) s.regs.fc).out }
        cycles := s.cycles + 8 } :=
  setReg8_setF_next s r (Shifted.result_eq op (s.regs.get8 r) s.regs.fc) 8

/-- A prefixed rotate or shift stores its number at HL, and sets F; no other register changes (R304). -/
theorem rotMem_eq (op : Rot) :
    rotMem op s =
      .next { s.cpuWrite s.regs.hl (BitVec.ofNat 8 (Shifted.number op (s.cpuRead s.regs.hl) s.regs.fc)) with
        regs := { s.regs with
          f := flagByte (decide (Shifted.number op (s.cpuRead s.regs.hl) s.regs.fc % 256 = 0)) false false
            (Shifted.of op (s.cpuRead s.regs.hl) s.regs.fc).out }
        cycles := s.cycles + 16 } :=
  store_setF_next s s.regs.hl (Shifted.result_eq op (s.cpuRead s.regs.hl) s.regs.fc) 16

/-- A byte with every bit as RES leaves it is what RES writes back; F is kept (R323). -/
theorem resReg_eq {n : BitNo} {r : R8} {res : Byte}
    (h : ∀ k, k < 8 → res.getLsbD k = ((s.regs.get8 r).getLsbD k && decide (k ≠ n.toNat))) :
    resReg n r s = .next { s with regs := s.regs.set8 r res, cycles := s.cycles + 8 } := by
  rw [← and_not_bitMask_eq h]
  rfl

theorem resMem_eq {n : BitNo} {res : Byte}
    (h : ∀ k, k < 8 → res.getLsbD k = ((s.cpuRead s.regs.hl).getLsbD k && decide (k ≠ n.toNat))) :
    resMem n s = .next { s.cpuWrite s.regs.hl res with regs := s.regs, cycles := s.cycles + 16 } := by
  rw [← and_not_bitMask_eq h]
  exact storeAt_eq s.regs.hl _ 16 s

/-- A byte with every bit as SET leaves it is what SET writes back; F is kept (R325). -/
theorem setReg_eq {n : BitNo} {r : R8} {res : Byte}
    (h : ∀ k, k < 8 → res.getLsbD k = ((s.regs.get8 r).getLsbD k || decide (k = n.toNat))) :
    setReg n r s = .next { s with regs := s.regs.set8 r res, cycles := s.cycles + 8 } := by
  rw [← or_bitMask_eq h]
  rfl

theorem setMem_eq {n : BitNo} {res : Byte}
    (h : ∀ k, k < 8 → res.getLsbD k = ((s.cpuRead s.regs.hl).getLsbD k || decide (k = n.toNat))) :
    setMem n s = .next { s.cpuWrite s.regs.hl res with regs := s.regs, cycles := s.cycles + 16 } := by
  rw [← or_bitMask_eq h]
  exact storeAt_eq s.regs.hl _ 16 s

end

/-! ### The statements -/

/-- Settles O15: each row sets A to the number of its rotate, and F to C alone. -/
theorem rotatesOfA : Obligations.RotatesOfA := fun s =>
  ⟨⟨rfl, rotateA_eq s .rlc⟩, ⟨rfl, rotateA_eq s .rrc⟩, ⟨rfl, rotateA_eq s .rl⟩, ⟨rfl, rotateA_eq s .rr⟩⟩

/-- Settles O16: each row writes the number of its rotate back to its register or to the byte at HL, and sets F. -/
theorem prefixedRotates : Obligations.PrefixedRotates := by
  intro s r
  have regRow (op : Rot) := And.intro (encode_rotReg op r) ((exec_rotReg s op r).trans (rotReg_eq s op r))
  have memRow (op : Rot) := And.intro (encode_rotMem op) ((exec_rotMem s op).trans (rotMem_eq s op))
  exact ⟨regRow .rlc, memRow .rlc, regRow .rrc, memRow .rrc, regRow .rl, memRow .rl, regRow .rr, memRow .rr⟩

/-- Settles O17: each row writes the number of its shift back to its register or to the byte at HL, and sets F. -/
theorem prefixedShifts : Obligations.PrefixedShifts := by
  intro s r
  have regRow (op : Rot) := And.intro (encode_rotReg op r) ((exec_rotReg s op r).trans (rotReg_eq s op r))
  have memRow (op : Rot) := And.intro (encode_rotMem op) ((exec_rotMem s op).trans (rotMem_eq s op))
  exact ⟨regRow .sla, memRow .sla, regRow .sra, memRow .sra, regRow .swap, memRow .swap, regRow .srl, memRow .srl⟩

/-- Settles O18: BIT sets F only, and the bits given for RES and SET fix the byte they write back. -/
theorem bitOperations : Obligations.BitOperations := by
  intro s n r
  refine ⟨⟨encode_bitReg n r, exec_bitReg s n r⟩, ⟨encode_bitMem n, exec_bitMem s n⟩,
    ⟨encode_resReg n r, encode_resMem n, fun res h => ⟨?_, ?_⟩⟩,
    ⟨encode_setReg n r, encode_setMem n, fun res h => ⟨?_, ?_⟩⟩⟩
  · exact (exec_resReg s n r).trans (resReg_eq s (h (s.regs.get8 r)))
  · exact (exec_resMem s n).trans (resMem_eq s (h (s.cpuRead s.regs.hl)))
  · exact (exec_setReg s n r).trans (setReg_eq s (h (s.regs.get8 r)))
  · exact (exec_setMem s n).trans (setMem_eq s (h (s.cpuRead s.regs.hl)))

end Sys2Proof.Machine
end

section
/-! Jumps, calls, returns and restarts (46_control_transfer.md): the encodings and meanings of the families indexed by a condition
or a restart number, and the whole next state of each shape, from which each row of the statements is read off. -/

namespace Sys2Proof.Machine

/-! ### The families indexed by a condition or a restart number -/

/-- The condition stands in bits 4..3 of the opcode, and the operand is low byte first (R135, R332). -/
theorem encode_jpCond (cc : Cond) (a : Word) :
    encode (.jpCond cc a) = [0b110#3 ++ cc.code ++ 0b010#3, loByte a, hiByte a] := by
  cases cc <;> rfl

theorem encode_jrCond (cc : Cond) (e : Byte) : encode (.jrCond cc e) = [0b001#3 ++ cc.code ++ 0b000#3, e] := by
  cases cc <;> rfl

theorem encode_callCond (cc : Cond) (a : Word) :
    encode (.callCond cc a) = [0b110#3 ++ cc.code ++ 0b100#3, loByte a, hiByte a] := by
  cases cc <;> rfl

theorem encode_retCond (cc : Cond) : encode (.retCond cc) = [0b110#3 ++ cc.code ++ 0b000#3] := by
  cases cc <;> rfl

/-- The restart number stands in bits 5..3 of the opcode (R136, R341). -/
theorem encode_rst (t : RstNo) : encode (.rst t) = [0b11#2 ++ t.code ++ 0b111#3] := by
  cases t <;> rfl

/-- A restart enters the address eight times its number (R136, R341). -/
theorem rstTarget_eq (t : RstNo) : t.target = 8 * t.code.setWidth 16 := by
  cases t <;> rfl

section
variable (s : State)

theorem exec_jpCond (cc : Cond) (a : Word) : exec (.jpCond cc a) s = jumpIf cc a 16 12 s := by
  cases cc <;> rfl

theorem exec_jrCond (cc : Cond) (e : Byte) : exec (.jrCond cc e) s = jumpIf cc (s.regs.pc + sext8 e) 12 8 s := by
  cases cc <;> rfl

theorem exec_callCond (cc : Cond) (a : Word) : exec (.callCond cc a) s = callIf cc a s := by
  cases cc <;> rfl

theorem exec_retCond (cc : Cond) : exec (.retCond cc) s = retIf cc s := by
  cases cc <;> rfl

theorem exec_rst (t : RstNo) : exec (.rst t) s = call t.target 16 s := by
  cases t <;> rfl

/-! ### The whole next state -/

/-- A jump writes PC and the cycle counter (R331, R333, R334). -/
theorem jump_eq (target : Word) (n : Nat) :
    jump target n s = .next { s with regs := { s.regs with pc := target }, cycles := s.cycles + n } := rfl

/-- A conditional jump not taken writes the cycle counter only (R332, R335). -/
theorem jumpIf_eq (cc : Cond) (target : Word) (taken notTaken : Nat) :
    jumpIf cc target taken notTaken s =
      if s.regs.cond cc then .next { s with regs := { s.regs with pc := target }, cycles := s.cycles + taken }
      else .next { s with cycles := s.cycles + notTaken } := rfl

/-- A call is a push of PC, then the write of PC and the cost (R336, R341). -/
theorem call_eq (target : Word) (n : Nat) :
    call target n s =
      .next { (s.cpuWrite (s.regs.sp - 1) (hiByte s.regs.pc)).cpuWrite (s.regs.sp - 2) (loByte s.regs.pc) with
        regs := { s.regs with sp := s.regs.sp - 2, pc := target }, cycles := s.cycles + n } :=
  congrArg (fun t : State => (.next (t.setPc target) : Result)) (s.push16_charge s.regs.pc n)

/-- A conditional call not taken stores nothing (R337). -/
theorem callIf_eq (cc : Cond) (target : Word) :
    callIf cc target s =
      if s.regs.cond cc then
        .next { (s.cpuWrite (s.regs.sp - 1) (hiByte s.regs.pc)).cpuWrite (s.regs.sp - 2) (loByte s.regs.pc) with
          regs := { s.regs with sp := s.regs.sp - 2, pc := target }, cycles := s.cycles + 24 }
      else .next { s with cycles := s.cycles + 12 } := by
  rw [← call_eq]
  rfl

/-- A return reads both bytes at the old SP, and writes SP, PC and the cycle counter (R77, R80, R338). -/
theorem ret_eq (n : Nat) :
    ret n s =
      .next { s with
        regs := { s.regs with sp := s.regs.sp + 2, pc := s.cpuRead (s.regs.sp + 1) ++ s.cpuRead s.regs.sp }
        cycles := s.cycles + n } := rfl

/-- A conditional return not taken leaves SP (R339). -/
theorem retIf_eq (cc : Cond) :
    retIf cc s =
      if s.regs.cond cc then
        .next { s with
          regs := { s.regs with sp := s.regs.sp + 2, pc := s.cpuRead (s.regs.sp + 1) ++ s.cpuRead s.regs.sp }
          cycles := s.cycles + 20 }
      else .next { s with cycles := s.cycles + 8 } := rfl

/-- RETI is RET that also sets IME; the EI latch is not among what it writes (R340, R408). -/
theorem retInterrupt_eq :
    retInterrupt s =
      .next { s with
        regs := { s.regs with sp := s.regs.sp + 2, pc := s.cpuRead (s.regs.sp + 1) ++ s.cpuRead s.regs.sp }
        cycles := s.cycles + 16
        ime := true } := rfl

end

/-! ### The statements -/

/-- Settles O19: each row is a jump or a conditional jump, and its condition is the flag bit it names. -/
theorem jumps : Obligations.Jumps := by
  intro s cc a e
  rw [← loByte_eq_extract, ← hiByte_eq_extract, ← add_sext8_eq_ofInt]
  intro goto stay relative holds
  have hcond : holds = s.regs.cond cc := by cases cc <;> rfl
  rw [hcond]
  exact ⟨⟨rfl, jump_eq s a 16⟩,
    ⟨encode_jpCond cc a, (exec_jpCond s cc a).trans (jumpIf_eq s cc a 16 12)⟩,
    ⟨rfl, jump_eq s s.regs.hl 4⟩, ⟨rfl, jump_eq s relative 12⟩,
    ⟨encode_jrCond cc e, (exec_jrCond s cc e).trans (jumpIf_eq s cc relative 12 8)⟩⟩

/-- Settles O20: each row is a call or a return, its condition decides whether it is taken, and a restart is a call. -/
theorem callsAndReturns : Obligations.CallsAndReturns := by
  intro s cc a t
  simp only [← loByte_eq_extract, ← hiByte_eq_extract, ← rstTarget_eq]
  exact ⟨⟨rfl, call_eq s a 24⟩, ⟨encode_callCond cc a, (exec_callCond s cc a).trans (callIf_eq s cc a)⟩,
    ⟨rfl, ret_eq s 16⟩, ⟨encode_retCond cc, (exec_retCond s cc).trans (retIf_eq s cc)⟩,
    ⟨rfl, retInterrupt_eq s⟩, ⟨encode_rst t, (exec_rst s t).trans (call_eq s t.target 16)⟩⟩

end Sys2Proof.Machine
end

section
/-! System and control instructions (47_system.md): the whole next state of each meaning, the meaning of a prefixed entry by the
fields of its byte, and the Update that follows EI. -/

namespace Sys2Proof.Machine

/-! ### The unassigned opcodes and the prefixed entries -/

theorem encode_illegal (x : IllegalOp) : encode (.illegal x) = [x.code] := by
  cases x <;> rfl

section
variable (s : State)

theorem exec_illegal (x : IllegalOp) : exec (.illegal x) s = unassigned s := by
  cases x <;> rfl

/-- An entry of the prefixed table is the member that the fields x, y and z of its byte name (R138), and each member means its
operation (R304, R321). -/
theorem exec_cbEntry (b : Byte) : exec (cbEntry b) s = runPrefixed b s := by
  obtain ⟨_, _, _, _, _, hfields⟩ := decodeIsTotal
  rw [hfields b, runPrefixed]
  generalize fieldY b = y
  generalize (fieldX b).toNat = x
  match x, R8.ofField (fieldZ b) with
  | 0, some r => exact exec_rotReg s (Rot.ofField y) r
  | 0, none => exact exec_rotMem s (Rot.ofField y)
  | 1, some r => exact exec_bitReg s (BitNo.ofField y) r
  | 1, none => exact exec_bitMem s (BitNo.ofField y)
  | 2, some r => exact exec_resReg s (BitNo.ofField y) r
  | 2, none => exact exec_resMem s (BitNo.ofField y)
  | _ + 3, some r => exact exec_setReg s (BitNo.ofField y) r
  | _ + 3, none => exact exec_setMem s (BitNo.ofField y)

/-! ### The whole next state -/

theorem noOperation_eq : noOperation s = .next { s with cycles := s.cycles + 4 } := rfl

/-- HALT does not halt where IME is 0, an enabled interrupt is pending and HALT_BUG is true (R361). -/
theorem halt_eq :
    halt s =
      if s.ime = false ∧ s.ie.setWidth 5 &&& s.ifBits ≠ 0 ∧ s.params.haltBug = true then
        .next { s with haltBug := true, cycles := s.cycles + 4 }
      else .next { s with runState := .halted, cycles := s.cycles + 4 } := by
  have hbug : (!s.ime && s.pending != 0 && s.params.haltBug) = true ↔
      s.ime = false ∧ s.ie.setWidth 5 &&& s.ifBits ≠ 0 ∧ s.params.haltBug = true := by
    simp [State.pending, and_assoc]
  exact if_congr hbug rfl rfl

/-- STOP halts under `halt_forever` only (R362). -/
theorem stop_eq :
    stop s =
      .next { s with
        runState := if s.params.stopPolicy = .haltForever then .halted else s.runState, cycles := s.cycles + 4 } := by
  unfold stop
  cases s.params.stopPolicy <;> rfl

theorem disableInterrupts_eq :
    disableInterrupts s = .next { s with ime := false, eiPending := false, cycles := s.cycles + 4 } := rfl

/-- EI leaves IME: the next instruction's Update moves the latch into it (R150, R364). -/
theorem enableInterrupts_eq : enableInterrupts s = .next { s with eiPending := true, cycles := s.cycles + 4 } := rfl

/-- An unassigned opcode locks the CPU under `lock` only (R366). -/
theorem unassigned_eq :
    unassigned s =
      .next { s with
        runState := if s.params.illegalPolicy = .lock then .locked else s.runState, cycles := s.cycles + 4 } := by
  unfold unassigned
  cases s.params.illegalPolicy <;> rfl

end

/-- Settles O21: each row has its encoding and the next state of its meaning, and PREFIX CB runs the entry of its byte. -/
theorem systemInstructions : Obligations.SystemInstructions := fun s n x =>
  ⟨⟨rfl, noOperation_eq s⟩, ⟨rfl, halt_eq s⟩, ⟨rfl, stop_eq s⟩, ⟨rfl, disableInterrupts_eq s⟩, ⟨rfl, enableInterrupts_eq s⟩,
    ⟨encode_illegal x, (exec_illegal s x).trans (unassigned_eq s)⟩, ⟨rfl, (exec_cbEntry s n).symm⟩⟩

/-! ### The Update after EI -/

section
variable {s : State} (hrun : s.runState = .running) (hime : s.ime = false) (hlatch : s.eiPending = true)
  (hbreak : s.breakpointHit = false)
include hrun hime hlatch hbreak

/-- With IME clear no dispatch is due, so the Update executes an instruction, before which the latch moves into IME
(R150, R364). -/
theorem step_of_latch : step s = executeOne { s with bpResume := false, ime := true, eiPending := false } := by
  have hbegin : s.beginInstr = { s with bpResume := false, ime := true, eiPending := false } := by
    rw [State.beginInstr, hime, hlatch, Bool.false_or]
  rw [step_of_instruction hrun (.inl hime) hbreak, hbegin]

/-- After EI an instruction of one byte runs with IME set, the latch clear and the PC past it, and then the devices advance by
its cycles (R150, R152). -/
theorem step_of_latch_one_byte (hbug : s.haltBug = false) (hskip : skip (s.cpuRead s.regs.pc) = 0) {t : State}
    (hexec : exec (decodeOp (s.cpuRead s.regs.pc) 0 0)
      { s with bpResume := false, ime := true, eiPending := false, regs := { s.regs with pc := s.regs.pc + 1 } } = .next t) :
    step s = .next (t.advance (t.cycles - s.cycles)) := by
  have hdec := decode_of_skip_zero hskip [s.cpuRead (s.regs.pc + 1), s.cpuRead (s.regs.pc + 2)]
  refine (stepRunsDecoded s t _ _ hrun (.inl hime) hbreak hbug hdec ?_).2
  rw [hime, hlatch]
  exact hexec

end

/-- Settles O39: the Update after EI executes an instruction with IME set and the latch clear; DI then clears IME, and NOP keeps
both and leaves the PC past itself. -/
theorem eiDelay : Obligations.EiDelay := by
  intro s hrun hime hlatch hbreak
  refine ⟨step_of_latch hrun hime hlatch hbreak, fun hbug hop => ?_, fun hbug hop => ?_⟩
  · have hstep := step_of_latch_one_byte hrun hime hlatch hbreak hbug (by rw [hop]; rfl)
      (by rw [hop]; exact disableInterrupts_eq _)
    exact ⟨_, hstep, State.advance_ime _ _, State.advance_eiPending _ _⟩
  · have hstep := step_of_latch_one_byte hrun hime hlatch hbreak hbug (by rw [hop]; rfl)
      (by rw [hop]; exact noOperation_eq _)
    exact ⟨_, hstep, State.advance_ime _ _, State.advance_eiPending _ _, congrArg Regs.pc (State.advance_regs _ _)⟩

end Sys2Proof.Machine
end

section
/-! What every instruction leaves as it was (R64, R156, R400). -/

namespace Sys2Proof.Machine

/-- The stores of an instruction leave the cartridge, the parameters and what the PPU has drawn (R64). -/
theorem State.Stored.busFixed {s t : State} (h : s.Stored t) : s.BusFixed t := by
  have of_over : ∀ u : State, t = t.over u → s.BusFixed u → s.BusFixed t := fun u e hu => by
    rw [e]
    exact ⟨hu.cart, hu.params, hu.frames, hu.front, hu.back⟩
  rcases h with e | ⟨a, v, e⟩ | ⟨a, v, b, w, e⟩
  · exact of_over s e (State.BusFixed.refl s)
  · exact of_over _ e (State.cpuWrite_busFixed s a v)
  · exact of_over _ e ((State.cpuWrite_busFixed s a v).trans (State.cpuWrite_busFixed _ b w))

/-- Settles O22: an instruction keeps the host's part of the CPU state, and its stores keep the rest. -/
theorem everyInstructionCompletes : Obligations.EveryInstructionCompletes := by
  intro i s
  obtain ⟨t, ht, hcpu, hstored⟩ := exec_completes s i
  obtain ⟨hcart, hparams, hframes, hfront, hback⟩ := hstored.busFixed
  exact ⟨t, ht, hcart, hparams, hcpu.breakpoints, hcpu.bpResume, hcpu.host, hframes, hfront, hback⟩

end Sys2Proof.Machine
end

section
/-! OAM DMA (R436): the copy as one statement about memory, from which the write follows. -/

namespace Sys2Proof.Machine

/-- The first `n` bytes of an OAM DMA copy from page `v` (R436). -/
def State.dmaCopy (s : State) (v : Byte) (n : Nat) : State := (List.range n).foldl (fun t i => t.dmaByte v i) s

/-- The bus address that byte `i` of a copy from page `v` is read at (R436). -/
def dmaSource (v : Byte) (i : Nat) : Word := BitVec.ofNat 16 (v.toNat * 0x100 + i)

theorem State.dmaCopy_succ (s : State) (v : Byte) (n : Nat) : s.dmaCopy v (n + 1) = (s.dmaCopy v n).dmaByte v n := by
  simp only [State.dmaCopy, List.range_succ, List.foldl_append, List.foldl_cons, List.foldl_nil]

theorem State.writeDma_eq (s : State) (v : Byte) :
    s.writeDma v = ({ s with ppu := { s.ppu with dma := v } } : State).dmaCopy v 160 := rfl

/-- A copy changes memory only. -/
theorem State.dmaCopy_frame (s : State) (v : Byte) (n : Nat) : s.dmaCopy v n = { s with mem := (s.dmaCopy v n).mem } := by
  induction n with
  | zero => rfl
  | succ n ih => rw [State.dmaCopy_succ, ih]; rfl

/-- A copy is not seen at an address that stands for no byte it wrote. -/
theorem State.dmaCopy_busRead (s : State) (v : Byte) (b : Word) (n : Nat) (h : ∀ i < n, ramAlias b ≠ 0xFE00 + i) :
    (s.dmaCopy v n).busRead b = s.busRead b := by
  induction n with
  | zero => rfl
  | succ n ih =>
    rw [State.dmaCopy_succ]
    exact (State.busRead_store_other _ _ _ b (h n (Nat.lt_succ_self n))).trans
      (ih fun i hi => h i (Nat.lt_succ_of_lt hi))

/-- A copy reads no byte that it wrote before: a source in OAM is the byte to be written itself. -/
theorem ramAlias_dmaSource_ne (v : Byte) {i j : Nat} (hi : i < 160) (hj : j < i) :
    ramAlias (dmaSource v i) ≠ 0xFE00 + j := by
  have hv : v.toNat < 256 := v.isLt
  have ha : (dmaSource v i).toNat = v.toNat * 0x100 + i := Nat.mod_eq_of_lt (by omega)
  unfold ramAlias
  split_ifs with hecho
  · have := echo_range hecho
    omega
  · omega

/-- Memory after a copy: OAM byte `i` is what the bus read at its source, and every other byte is as before (R436). -/
theorem State.dmaCopy_read (s : State) (v : Byte) {n : Nat} (hn : n ≤ 160) :
    (∀ i < n, (s.dmaCopy v n).mem.read (0xFE00 + i) = s.busRead (dmaSource v i)) ∧
      ∀ k, k < 0xFE00 ∨ 0xFE00 + n ≤ k → (s.dmaCopy v n).mem.read k = s.mem.read k := by
  induction n with
  | zero => exact ⟨fun i hi => absurd hi (Nat.not_lt_zero i), fun _ _ => rfl⟩
  | succ n ih =>
    obtain ⟨hcopied, hkept⟩ := ih (by omega)
    have hmem : (s.dmaCopy v (n + 1)).mem = (s.dmaCopy v n).mem.write (0xFE00 + n) (s.busRead (dmaSource v n)) := by
      rw [State.dmaCopy_succ, ← State.dmaCopy_busRead s v (dmaSource v n) n fun j => ramAlias_dmaSource_ne v hn]
      rfl
    rw [hmem]
    refine ⟨fun i hi => ?_, fun k hk => ?_⟩
    · rcases Nat.lt_succ_iff_lt_or_eq.1 hi with hlt | rfl
      · rw [Memory.read_write_other _ _ (by omega)]
        exact hcopied i hlt
      · exact Memory.read_write_same _ _ _
    · rw [Memory.read_write_other _ _ (by omega)]
      exact hkept k (by omega)

/-- Settles O29: the write stores the register and then copies 160 bytes. -/
theorem oamDmaCopy : Obligations.OamDmaCopy := by
  intro s v t
  have ht : t = ({ s with ppu := { s.ppu with dma := v } } : State).dmaCopy v 160 :=
    (State.busWrite_io s (r := .dma) rfl rfl v).trans (State.writeDma_eq s v)
  have hframe := State.dmaCopy_frame { s with ppu := { s.ppu with dma := v } } v 160
  obtain ⟨hcopied, hkept⟩ := State.dmaCopy_read { s with ppu := { s.ppu with dma := v } } v (Nat.le_refl 160)
  rw [← ht] at hframe hcopied hkept
  refine ⟨fun i hi => ?_, ?_, hkept, hframe⟩
  · have ha : (BitVec.ofNat 16 (0xFE00 + i)).toNat = 0xFE00 + i := Nat.mod_eq_of_lt (by omega)
    have hoam : regionOf (BitVec.ofNat 16 (0xFE00 + i)) = .oam := regionOf_oam (by omega) (by omega)
    rw [State.busRead_ram t (by rw [hoam]; rfl), ramAlias_of_ne_echo (by rw [hoam]; decide), ha]
    exact hcopied i hi
  · rw [State.busRead_io t (r := .dma) rfl rfl, hframe]
    rfl

end Sys2Proof.Machine
end

section
/-! Taking an interrupt (R404, R406, R407). -/

namespace Sys2Proof.Machine

/-- A dispatch is due: the Update enters the lowest pending source (R404, R407). -/
theorem step_of_dispatch {s : State} (hrun : s.runState = .running) (hime : s.ime = true) (hp : s.pending ≠ 0) :
    step s = .next ((s.dispatch (lowestSource s.pending)).spend 20) := by
  simp only [step, update, hrun, hime, bne_iff_ne.2 hp, Bool.and_self, if_true]

/-- The source entered is pending, and no lower one is (R407). -/
theorem lowestSource_spec : ∀ p : BitVec 5, p ≠ 0 →
    lowestSource p < 5 ∧ p.getLsbD (lowestSource p) = true ∧ ∀ j < lowestSource p, p.getLsbD j = false := by
  decide

/-- A dispatch clears the request of its source alone (R406). -/
theorem getLsbD_clearRequest (f : BitVec 5) (i : Nat) {j : Nat} (hj : j < 5) :
    (f &&& ~~~(1#5 <<< i)).getLsbD j = (f.getLsbD j && decide (j ≠ i)) := by
  have hbit : (1#5 <<< i).getLsbD j = decide (j = i) := by
    rw [← BitVec.twoPow_eq, BitVec.getLsbD_twoPow]
    by_cases h : j = i
    · subst h; simp [hj]
    · simp [h, Ne.symm h]
  rw [BitVec.getLsbD_and, BitVec.getLsbD_not, hbit]
  simp [hj]

/-- A dispatch as one update of the state that the two stores of the PC leave (R406). -/
theorem State.dispatch_spend (s : State) (i : Nat) :
    (s.dispatch i).spend 20 =
      { ({ (({ s with ifBits := s.ifBits &&& ~~~(1#5 <<< i), ime := false, eiPending := false } : State).cpuWrite
              (s.regs.sp - 1) (s.regs.pc.extractLsb' 8 8)).cpuWrite (s.regs.sp - 2) (s.regs.pc.extractLsb' 0 8) with
            regs := { s.regs with sp := s.regs.sp - 2, pc := BitVec.ofNat 16 (0x0040 + 8 * i) } } : State).advance 20 with
        cycles := s.cycles + 20 } := by
  rw [State.spend_eq, State.dispatch_eq, hiByte_eq_extract, loByte_eq_extract]
  simp [State.over, vector]

/-- Settles O38: the Update is the dispatch of the lowest pending source. -/
theorem dispatchEntry : Obligations.DispatchEntry := by
  intro s hrun hime hp
  obtain ⟨hlt, hset, hlow⟩ := lowestSource_spec s.pending hp
  exact ⟨lowestSource s.pending, hlt, hset, hlow, _, fun j => getLsbD_clearRequest s.ifBits _,
    (step_of_dispatch hrun hime hp).trans (congrArg Host.Outcome.next (s.dispatch_spend _))⟩

end Sys2Proof.Machine
end

section
/-! The host side is invisible to the core (R463, R471, R485): every operation of an Update commutes with replacing it. -/

namespace Sys2Proof.Machine

/-- The state with another host side. -/
def State.setHost (s : State) (h : HostSide) : State := { s with host := h }

/-- An answer with another host side. -/
def setHostOf (h : HostSide) : Result → Result
  | .next t => .next (t.setHost h)
  | .fault r => .fault r
  | .refused r => .refused r

/-- An operation that commutes with the CPU part commutes with the host side, which is of the CPU part. -/
theorem State.setHost_of_over {f : State → State} (hf : ∀ c s : State, f (c.over s) = c.over (f s)) (s : State)
    (h : HostSide) : f (s.setHost h) = (f s).setHost h := by
  have hself : s.over (f s) = f s := (hf s s).symm
  calc f (s.setHost h) = (s.setHost h).over (f s) := hf (s.setHost h) s
    _ = (s.over (f s)).setHost h := rfl
    _ = (f s).setHost h := by rw [hself]

section
variable (s : State) (h : HostSide)

theorem State.setHost_regs : (s.setHost h).regs = s.regs := rfl

@[simp] theorem State.setHost_cpuRead (a : Word) : (s.setHost h).cpuRead a = s.cpuRead a :=
  State.over_cpuRead (s.setHost h) s a

theorem State.setHost_cpuWrite (a : Word) (v : Byte) : (s.setHost h).cpuWrite a v = (s.cpuWrite a v).setHost h :=
  State.setHost_of_over (f := (State.cpuWrite · a v)) (fun c s => State.over_cpuWrite c s a v) s h

theorem State.setHost_advance (n : Nat) : (s.setHost h).advance n = (s.advance n).setHost h :=
  State.setHost_of_over (f := (State.advance n ·)) (fun c s => State.over_advance c s n) s h

theorem State.setHost_spend (n : Nat) : (s.setHost h).spend n = (s.spend n).setHost h :=
  congrArg (State.charge · n) (s.setHost_advance h n)

theorem State.setHost_push16 (v : Word) : (s.setHost h).push16 v = (s.push16 v).setHost h := by
  rw [State.push16_eq, State.push16_eq, State.setHost_cpuWrite, State.setHost_cpuWrite]
  rfl

theorem State.setHost_dispatch (i : Nat) : (s.setHost h).dispatch i = (s.dispatch i).setHost h :=
  congrArg (State.setPc · (vector i)) (State.setHost_push16
    { s with ifBits := s.ifBits &&& ~~~(1#5 <<< i), ime := false, eiPending := false } h s.regs.pc)

/-- The condition of a breakpoint does not see the host side (R470, log entry 5). -/
theorem State.setHost_breakpointHit : (s.setHost h).breakpointHit = s.breakpointHit := rfl

theorem State.setHost_fetch : (s.setHost h).fetch = (s.fetch.1, s.fetch.2.setHost h) := by
  refine Prod.ext ?_ ?_
  · cases hb : s.haltBug
    · rw [State.fetch_fst _ hb, State.fetch_fst (s.setHost h) hb]
      simp only [State.setHost_cpuRead]; rfl
    · rw [State.fetch_fst_haltBug _ hb, State.fetch_fst_haltBug (s.setHost h) hb]
      simp only [State.setHost_cpuRead]; rfl
  · rw [State.fetch_snd, State.fetch_snd, State.fetchLength, State.setHost_cpuRead]
    rfl

/-! ### The meanings -/

theorem storeAt_setHost (a : Word) (v : Byte) (n : Nat) : storeAt a v n (s.setHost h) = setHostOf h (storeAt a v n s) :=
  congrArg (fun t : State => Host.Outcome.next (t.charge n)) (s.setHost_cpuWrite h a v)

theorem storeF_setHost (a : Word) (v f : Byte) (n : Nat) :
    (.next ((((s.setHost h).cpuWrite a v).setF f).charge n) : Result) =
      setHostOf h (.next (((s.cpuWrite a v).setF f).charge n)) :=
  congrArg (fun t : State => Host.Outcome.next ((t.setF f).charge n)) (s.setHost_cpuWrite h a v)

theorem storeAndStep_setHost (v : Word) : storeAndStep v (s.setHost h) = setHostOf h (storeAndStep v s) :=
  congrArg (fun t : State => Host.Outcome.next ((t.setReg16 .hl v).charge 8)) (s.setHost_cpuWrite h s.regs.hl s.regs.a)

theorem storeSp_setHost (a : Word) : storeSp a (s.setHost h) = setHostOf h (storeSp a s) := by
  unfold storeSp State.cpuWrite16
  rw [State.setHost_cpuWrite, State.setHost_cpuWrite]
  rfl

theorem pushPair_setHost (p : R16s) : pushPair p (s.setHost h) = setHostOf h (pushPair p s) :=
  congrArg (fun t : State => Host.Outcome.next (t.charge 16)) (s.setHost_push16 h (s.regs.get16s p))

theorem call_setHost (a : Word) (n : Nat) : call a n (s.setHost h) = setHostOf h (call a n s) :=
  congrArg (fun t : State => Host.Outcome.next ((t.setPc a).charge n)) (s.setHost_push16 h s.regs.pc)

theorem jumpIf_setHost (cc : Cond) (a : Word) (m n : Nat) :
    jumpIf cc a m n (s.setHost h) = setHostOf h (jumpIf cc a m n s) := by
  unfold jumpIf
  rw [State.setHost_regs]
  split_ifs <;> rfl

theorem callIf_setHost (cc : Cond) (a : Word) : callIf cc a (s.setHost h) = setHostOf h (callIf cc a s) := by
  unfold callIf
  rw [State.setHost_regs]
  split_ifs
  · exact call_setHost s h a 24
  · rfl

theorem ret_setHost (n : Nat) : ret n (s.setHost h) = setHostOf h (ret n s) := rfl

theorem retIf_setHost (cc : Cond) : retIf cc (s.setHost h) = setHostOf h (retIf cc s) := by
  unfold retIf
  rw [State.setHost_regs]
  split_ifs
  · exact ret_setHost s h 20
  · rfl

theorem halt_setHost : halt (s.setHost h) = setHostOf h (halt s) := by
  rw [halt_eq, halt_eq, apply_ite (setHostOf h)]
  rfl

theorem stop_setHost : stop (s.setHost h) = setHostOf h (stop s) := by
  rw [stop_eq, stop_eq]
  rfl

theorem unassigned_setHost : unassigned (s.setHost h) = setHostOf h (unassigned s) := by
  rw [unassigned_eq, unassigned_eq]
  rfl

theorem runPrefixed_setHost (b : Byte) : runPrefixed b (s.setHost h) = setHostOf h (runPrefixed b s) := by
  unfold runPrefixed
  split
  case h_2 => exact storeF_setHost s h _ _ _ 16
  case h_6 | h_8 => exact storeAt_setHost s h _ _ 16
  all_goals rfl

/-- Every instruction commutes with replacing the host side. The cases are the stores and the meanings with a condition;
every other meaning writes the register file from reads that do not see the host side. -/
theorem exec_setHost (i : Instr) : exec i (s.setHost h) = setHostOf h (exec i s) := by
  cases i
  case ld_mhl_b | ld_mhl_c | ld_mhl_d | ld_mhl_e | ld_mhl_h | ld_mhl_l | ld_mhl_a | ld_mhl_n8 | ld_mbc_a | ld_mde_a |
      ld_ma16_a | ldh_ma8_a | ld_mc_a =>
    exact storeAt_setHost s h _ _ _
  case ld_mhli_a | ld_mhld_a => exact storeAndStep_setHost s h _
  case ld_ma16_sp => exact storeSp_setHost s h _
  case push_bc | push_de | push_hl | push_af => exact pushPair_setHost s h _
  case call_a16 | rst_00h | rst_08h | rst_10h | rst_18h | rst_20h | rst_28h | rst_30h | rst_38h =>
    exact call_setHost s h _ _
  case jp_nz_a16 | jp_z_a16 | jp_nc_a16 | jp_c_a16 | jr_nz_e8 | jr_z_e8 | jr_nc_e8 | jr_c_e8 =>
    exact jumpIf_setHost s h _ _ _ _
  case call_nz_a16 | call_z_a16 | call_nc_a16 | call_c_a16 => exact callIf_setHost s h _ _
  case ret_nz | ret_z | ret_nc | ret_c => exact retIf_setHost s h _
  case halt => exact halt_setHost s h
  case stop_n8 => exact stop_setHost s h
  case illegal_d3 | illegal_db | illegal_dd | illegal_e3 | illegal_e4 | illegal_eb | illegal_ec | illegal_ed |
      illegal_f4 | illegal_fc | illegal_fd =>
    exact unassigned_setHost s h
  case prefix_cb => exact runPrefixed_setHost s h _
  case inc_mhl | dec_mhl | rlc_mhl | rrc_mhl | rl_mhl | rr_mhl | sla_mhl | sra_mhl | swap_mhl | srl_mhl =>
    exact storeF_setHost s h _ _ _ _
  case res_0_mhl | res_1_mhl | res_2_mhl | res_3_mhl | res_4_mhl | res_5_mhl | res_6_mhl | res_7_mhl |
      set_0_mhl | set_1_mhl | set_2_mhl | set_3_mhl | set_4_mhl | set_5_mhl | set_6_mhl | set_7_mhl =>
    exact storeAt_setHost s h _ _ _
  all_goals rfl

/-! ### The Update -/

theorem executeOne_setHost : executeOne (s.setHost h) = setHostOf h (executeOne s) := by
  unfold executeOne
  rw [State.setHost_fetch]
  dsimp only
  rw [exec_setHost]
  cases exec s.fetch.1 s.fetch.2 with
  | next t => exact congrArg Host.Outcome.next (t.setHost_advance h _)
  | fault r => rfl
  | refused r => rfl

/-- An Update commutes with replacing the host side, one kind of Update at a time. -/
theorem step_setHost : step (s.setHost h) = setHostOf h (step s) := by
  obtain ⟨hpaused, hlocked, hhalted, hwakes, -⟩ := updateWithoutInstruction (s.setHost h)
  rcases step_cases s with ⟨hrun, e⟩ | ⟨hrun, e⟩ | ⟨hrun, hp, e⟩ | ⟨hrun, hp, e⟩ | ⟨hrun, hime, hp, e⟩ |
    ⟨hrun, hdue, hb, e⟩ | ⟨hrun, hdue, hb, e⟩
  all_goals rw [e]
  · exact hpaused hrun
  · rw [hlocked hrun, State.setHost_advance, State.spend_eq]; rfl
  · rw [hhalted hrun hp, State.setHost_advance, State.spend_eq]; rfl
  · rw [hwakes hrun hp, State.setHost_advance, State.spend_eq, State.setRunState_advance s .running 4]; rfl
  · refine (step_of_dispatch (s := s.setHost h) hrun hime hp).trans ?_
    rw [State.setHost_dispatch, State.setHost_spend]; rfl
  · exact step_of_breakpoint (s := s.setHost h) hrun hdue ((s.setHost_breakpointHit h).trans hb)
  · exact (step_of_instruction (s := s.setHost h) hrun hdue ((s.setHost_breakpointHit h).trans hb)).trans
      (executeOne_setHost s.beginInstr h)

end

/-- Settles O42: a step with another host side gives the same answer with that host side. -/
theorem hostSideInvisible : Obligations.HostSideInvisible := fun s _ h hstep =>
  (step_setHost s h).trans (congrArg (setHostOf h) hstep)

end Sys2Proof.Machine
end

section
/-! The timer (R421 to R427): one equation for every update of DIV or TAC, and the count of TIMA over `Advance(n)`. -/

namespace Sys2Proof.Machine

/-! ### The falling edge -/

/-- An increment of TIMA reloads it and requests interrupt 2 at 0xFF, and adds 1 elsewhere (R424). -/
theorem State.timaIncrement_cases (s : State) :
    s.timaIncrement =
      if s.timer.tima = 0xFF then
        { s with timer := { s.timer with tima := s.timer.tma }, ifBits := s.ifBits ||| 0b00100#5 }
      else { s with timer := { s.timer with tima := BitVec.ofNat 8 (s.timer.tima.toNat + 1) } } := by
  rw [BitVec.ofNat_add, BitVec.ofNat_toNat, BitVec.setWidth_eq]
  rfl

/-- An update of DIV or TAC increments TIMA exactly when the timer signal falls (R423, R426). -/
theorem State.timerUpdate_cases (s : State) (t : Timer) :
    s.timerUpdate t =
      if s.timer.signal = true ∧ t.signal = false then
        if t.tima = 0xFF then { s with timer := { t with tima := t.tma }, ifBits := s.ifBits ||| 0b00100#5 }
        else { s with timer := { t with tima := BitVec.ofNat 8 (t.tima.toNat + 1) } }
      else { s with timer := t } := by
  have hfall : (s.timer.signal && !t.signal) = true ↔ s.timer.signal = true ∧ t.signal = false := by simp
  exact if_congr hfall (State.timaIncrement_cases { s with timer := t }) rfl

/-- Settles O44: each of the three is an update of the timer, and its next timer is the one stated. -/
theorem timerWriteEdge : Obligations.TimerWriteEdge := by
  intro s v
  have htac : v.setWidth 3 = BitVec.ofNat 3 v.toNat := rfl
  have hdiv : s.timer.div + 1 = BitVec.ofNat 16 (s.timer.div.toNat + 1) := by
    rw [BitVec.ofNat_add, BitVec.ofNat_toNat, BitVec.setWidth_eq]; rfl
  refine ⟨?_, ?_, ?_⟩
  · exact (State.busWrite_io s (r := .div) rfl rfl v).trans (s.timerUpdate_cases _)
  · exact (State.busWrite_io s (r := .tac) rfl rfl v).trans (s.timerUpdate_cases _)
  · rw [← hdiv]
    exact s.timerUpdate_cases _

/-! ### Counting -/

/-- The T-cycles between two falls of the bit that TAC selects (R422, R427). -/
def Timer.period (t : Timer) : Nat := 2 ^ (t.selectedBit + 1)

theorem Timer.period_cases (t : Timer) : t.period = 1024 ∨ t.period = 16 ∨ t.period = 64 ∨ t.period = 256 := by
  unfold Timer.period Timer.selectedBit
  split <;> decide

/-- A bit falls when a counter goes up by 1 exactly at the end of its period. -/
theorem bit_falls_iff (d : Word) {k : Nat} (hk : k < 16) :
    d.getLsbD k = true ∧ (d + 1).getLsbD k = false ↔ d.toNat % 2 ^ (k + 1) = 2 ^ (k + 1) - 1 := by
  have hd := d.isLt
  have hadd : (d + 1).toNat = (d.toNat + 1) % 65536 := BitVec.toNat_add d 1
  rw [BitVec.getLsbD, BitVec.getLsbD, Nat.testBit_eq_decide_div_mod_eq, Nat.testBit_eq_decide_div_mod_eq, hadd]
  simp only [decide_eq_true_eq, decide_eq_false_iff_not]
  interval_cases k <;> omega

/-- How often the selected bit falls in `n` T-cycles, counted from the phase of `div_counter` (R423, R427). -/
def Timer.ticks (t : Timer) (n : Nat) : Nat := (t.div.toNat % t.period + n) / t.period

theorem Timer.selectedBit_lt (t : Timer) : t.selectedBit < 16 := by
  unfold Timer.selectedBit
  split <;> decide

@[simp] theorem Timer.ticks_zero (t : Timer) : t.ticks 0 = 0 := Nat.div_eq_of_lt (Nat.mod_lt _ (Nat.two_pow_pos _))

/-- The counts of the first T-cycle and of the others add up: a period divides 2^16. -/
theorem Timer.ticks_succ {t u : Timer} (hdiv : u.div = t.div + 1) (htac : u.tac = t.tac) (n : Nat) :
    t.ticks (n + 1) = t.ticks 1 + u.ticks n := by
  have hperiod : u.period = t.period := by unfold Timer.period Timer.selectedBit; rw [htac]
  have hadd : (t.div + 1).toNat = (t.div.toNat + 1) % 65536 := BitVec.toNat_add t.div 1
  unfold Timer.ticks
  rw [hperiod, hdiv, hadd]
  rcases t.period_cases with h | h | h | h <;> rw [h] <;> omega

/-- With the timer enabled the signal falls in a T-cycle that ends a period (R423). -/
theorem Timer.falls_iff {t : Timer} (hon : t.tac.getLsbD 2 = true) :
    t.signal = true ∧ ({ t with div := t.div + 1 } : Timer).signal = false ↔ t.ticks 1 = 1 := by
  have hbit := bit_falls_iff t.div t.selectedBit_lt
  have hsignal : ∀ d : Word, ({ t with div := d } : Timer).signal = d.getLsbD t.selectedBit := fun d => by
    rw [Timer.signal, hon, Bool.true_and]; rfl
  rw [show t.signal = t.div.getLsbD t.selectedBit from hsignal t.div, hsignal, hbit]
  unfold Timer.ticks
  change t.div.toNat % t.period = t.period - 1 ↔ _
  rcases t.period_cases with h | h | h | h <;> rw [h] <;> omega

theorem Timer.ticks_one_le (t : Timer) : t.ticks 1 ≤ 1 := by
  unfold Timer.ticks
  rcases t.period_cases with h | h | h | h <;> rw [h] <;> omega

/-- A T-cycle adds its count to TIMA where that does not overflow (R424). -/
theorem State.timerTick_tima {s : State} (hon : s.timer.tac.getLsbD 2 = true)
    (hroom : s.timer.tima.toNat + s.timer.ticks 1 ≤ 0xFF) :
    s.timerTick.timer.tima.toNat = s.timer.tima.toNat + s.timer.ticks 1 := by
  have hle := s.timer.ticks_one_le
  rw [State.timerTick, State.timerUpdate_cases]
  simp only [Timer.falls_iff hon]
  by_cases hfall : s.timer.ticks 1 = 1
  · have hmax : s.timer.tima ≠ 0xFF := fun h => by
      rw [h, hfall] at hroom
      exact absurd hroom (by decide)
    rw [if_pos hfall, if_neg hmax, hfall]
    exact Nat.mod_eq_of_lt (by omega)
  · have hzero : s.timer.ticks 1 = 0 := by omega
    rw [if_neg hfall, hzero]
    rfl

/-- With the timer disabled the signal is low and TIMA is kept (R423). -/
theorem State.timerTick_tima_of_off {s : State} (hoff : s.timer.tac.getLsbD 2 = false) :
    s.timerTick.timer.tima = s.timer.tima := by
  have hlow : s.timer.signal = false := by rw [Timer.signal, hoff, Bool.false_and]
  rw [State.timerTick, State.timerUpdate_cases, if_neg (by simp [hlow])]

section
variable {s : State} (n : Nat)

theorem State.advance_div : (s.advance n).timer.div.toNat = (s.timer.div.toNat + n) % 65536 := by
  induction n generalizing s with
  | zero => exact (Nat.mod_eq_of_lt s.timer.div.isLt).symm
  | succ n ih =>
    have hadd : (s.timer.div + 1).toNat = (s.timer.div.toNat + 1) % 65536 := BitVec.toNat_add s.timer.div 1
    rw [State.advance_succ, ih, State.ppuTick_timer, State.timerTick_div, hadd]
    omega

/-- `Advance(n)` adds its count to TIMA where that does not overflow (R422, R423, R427). -/
theorem State.advance_tima (hon : s.timer.tac.getLsbD 2 = true)
    (hroom : s.timer.tima.toNat + s.timer.ticks n ≤ 0xFF) :
    (s.advance n).timer.tima.toNat = s.timer.tima.toNat + s.timer.ticks n := by
  induction n generalizing s with
  | zero => rw [Timer.ticks_zero]; rfl
  | succ n ih =>
    have hsplit := Timer.ticks_succ (State.timerTick_div s) (State.timerTick_tac s) n
    have hfirst := State.timerTick_tima hon (by omega)
    rw [State.advance_succ, ih, State.ppuTick_timer]
    · omega
    · rw [State.ppuTick_timer, State.timerTick_tac]; exact hon
    · rw [State.ppuTick_timer]; omega

theorem State.advance_tima_of_off (hoff : s.timer.tac.getLsbD 2 = false) : (s.advance n).timer.tima = s.timer.tima := by
  induction n generalizing s with
  | zero => rfl
  | succ n ih =>
    rw [State.advance_succ, ih (by rw [State.ppuTick_timer, State.timerTick_tac]; exact hoff), State.ppuTick_timer,
      State.timerTick_tima_of_off hoff]

end

/-- Settles O43: the counts of `Advance(n)`, the period being the one TAC selects. -/
theorem timerCounts : Obligations.TimerCounts := by
  intro s n
  refine ⟨State.advance_div n, ?_⟩
  intro period ticks
  have hperiod : s.timer.period = period := by
    unfold Timer.period Timer.selectedBit period
    generalize (s.timer.tac.setWidth 2).toNat = select
    rcases select with _ | _ | _ | select <;> rfl
  have hticks : s.timer.ticks n = ticks := by
    rw [Timer.ticks, hperiod]
  rw [← hticks]
  exact ⟨State.advance_tima n, State.advance_tima_of_off n⟩

end Sys2Proof.Machine
end

section
/-! The PPU's frame (R448 to R455): where a dot puts it, when it publishes, and the STAT line. -/

namespace Sys2Proof.Machine

/-! ### The position -/

theorem Ppu.nextDot_dot (p : Ppu) : p.nextDot.dot = if p.dot + 1 = 456 then 0 else p.dot + 1 := by
  unfold Ppu.nextDot
  split_ifs <;> rfl

theorem Ppu.nextDot_ly (p : Ppu) :
    p.nextDot.ly = if p.dot + 1 = 456 then (if p.ly + 1 = 154 then 0 else p.ly + 1) else p.ly := by
  unfold Ppu.nextDot
  split_ifs <;> rfl

/-- A dot moves the position by one through the frame (R449, R450). -/
theorem Ppu.nextDot_position {p : Ppu} (h : p.Inv) : p.nextDot.position = (p.position + 1) % 70224 := by
  have hly := h.ly_range
  have hdot := h.dot_range
  rw [Ppu.position, Ppu.position, Ppu.nextDot_ly, Ppu.nextDot_dot]
  split <;> [split; skip] <;> omega

theorem Ppu.position_lt {p : Ppu} (h : p.Inv) : p.position < 70224 := by
  have hly := h.ly_range
  have hdot := h.dot_range
  unfold Ppu.position
  omega

/-- Line 144 begins at dot 65,664 of the frame (R450, R451). -/
theorem Ppu.nextDot_publishes_iff {p : Ppu} (h : p.Inv) :
    p.nextDot.ly = 144 ∧ p.nextDot.dot = 0 ↔ p.position + 1 = 65664 := by
  have hly := h.ly_range
  have hdot := h.dot_range
  rw [Ppu.position, Ppu.nextDot_ly, Ppu.nextDot_dot]
  split <;> [split; skip] <;> omega

/-- What `Advance(n)` keeps of a PPU that is on: its invariant, and that it is on. -/
def State.LcdRuns (s : State) : Prop := s.ppu.Inv ∧ s.ppu.lcdOn = true

theorem State.LcdRuns.tick {s : State} (h : s.LcdRuns) : s.timerTick.ppuTick.LcdRuns := by
  obtain ⟨hinv, hon⟩ := h
  have hon' : s.timerTick.ppu.lcdOn = true := by rw [State.timerTick_ppu]; exact hon
  refine ⟨State.ppuTick_ppuInv (by rw [State.timerTick_ppu]; exact hinv), ?_⟩
  rw [State.ppuTick_ppu hon', Ppu.nextDot_eq]
  exact hon'

theorem State.LcdRuns.advance {s : State} (h : s.LcdRuns) (n : Nat) : (s.advance n).LcdRuns :=
  State.advance_induct (P := fun s t => s.LcdRuns → t.LcdRuns) (fun _ => id) (fun h k => k ∘ h)
    (fun _ => State.LcdRuns.tick) s n h

theorem State.advance_succ_last (s : State) (n : Nat) : s.advance (n + 1) = (s.advance n).timerTick.ppuTick :=
  State.advance_add s n 1

/-- A T-cycle moves a PPU that is on by one dot (R154, R449). -/
theorem State.LcdRuns.tick_position {s : State} (h : s.LcdRuns) :
    s.timerTick.ppuTick.ppu.position = (s.ppu.position + 1) % 70224 := by
  obtain ⟨hinv, hon⟩ := h
  rw [← Ppu.nextDot_position hinv, State.ppuTick_ppu (by rw [State.timerTick_ppu]; exact hon), State.timerTick_ppu]
  rfl

theorem State.LcdRuns.advance_position {s : State} (h : s.LcdRuns) (n : Nat) :
    (s.advance n).ppu.position = (s.ppu.position + n) % 70224 := by
  induction n with
  | zero => rw [Nat.add_zero, Nat.mod_eq_of_lt (Ppu.position_lt h.1)]; rfl
  | succ n ih =>
    rw [State.advance_succ_last, (h.advance n).tick_position, ih]
    omega

/-- Settles O46: the invariant gives the mode of each position. -/
theorem ppuPositionAdvances : Obligations.PpuPositionAdvances := by
  intro n s hinv hon
  have hruns : s.LcdRuns := ⟨hinv, hon⟩
  obtain ⟨hinv', hon'⟩ := hruns.advance n
  exact ⟨hruns.advance_position n, hinv'.mode_on hon'⟩

/-! ### What a dot does -/

theorem Ppu.nextDot_mode (p : Ppu) : p.nextDot.mode = modeAt p.nextDot.ly p.nextDot.dot :=
  congrArg Ppu.mode (Ppu.nextDot_eq p)

theorem Ppu.nextDot_lcdOn (p : Ppu) : p.nextDot.lcdOn = p.lcdOn := by rw [Ppu.nextDot_eq]; rfl

theorem Ppu.nextDot_back (p : Ppu) : p.nextDot.back = p.back := by rw [Ppu.nextDot_eq]

theorem Ppu.nextDot_statLine (p : Ppu) : p.nextDot.statLine = p.statLine := by rw [Ppu.nextDot_eq]

/-- With the LCD on `UpdateStatLine()` adds the STAT request on a rising edge (R453). -/
theorem State.updateStatLine_ifBits_of_on {s : State} (hon : s.ppu.lcdOn = true) :
    s.updateStatLine.ifBits =
      s.ifBits ||| if s.ppu.statCondition = true ∧ s.ppu.statLine = false then 0b00010#5 else 0 := by
  rw [State.updateStatLine_ifBits]
  simp only [hon, true_and]
  split_ifs
  · rfl
  · exact BitVec.or_zero.symm

/-- What is requested once a dot has moved: VBlank where line 144 begins (R454), and STAT on a rising edge of its line
(R453). -/
theorem State.finishDot_ifBits {s : State} (hon : s.ppu.lcdOn = true) (prev : PpuMode) :
    (s.renderAt prev).publishAt.updateStatLine.ifBits =
      (if s.ppu.ly = 144 ∧ s.ppu.dot = 0 then s.ifBits ||| 0b00001#5 else s.ifBits) |||
        if s.ppu.statCondition = true ∧ s.ppu.statLine = false then 0b00010#5 else 0 := by
  obtain ⟨b, w, hrender⟩ : ∃ b w, s.renderAt prev = { s with ppu := { s.ppu with back := b, winLine := w } } :=
    ⟨_, _, State.renderAt_eq s prev⟩
  rw [hrender, State.publishAt_eq]
  dsimp only
  by_cases hpub : s.ppu.ly = 144 ∧ s.ppu.dot = 0
  · rw [if_pos hpub, if_pos hpub]
    exact State.updateStatLine_ifBits_of_on hon
  · rw [if_neg hpub, if_neg hpub]
    exact State.updateStatLine_ifBits_of_on hon

theorem State.ppuTick_ifBits {s : State} (hon : s.ppu.lcdOn = true) :
    s.ppuTick.ifBits =
      (if s.ppu.nextDot.ly = 144 ∧ s.ppu.nextDot.dot = 0 then s.ifBits ||| 0b00001#5 else s.ifBits) |||
        if s.ppu.nextDot.statCondition = true ∧ s.ppu.statLine = false then 0b00010#5 else 0 := by
  rw [State.ppuTick_of_on hon,
    State.finishDot_ifBits (s := { s with ppu := s.ppu.nextDot }) ((Ppu.nextDot_lcdOn s.ppu).trans hon)]
  dsimp only
  rw [Ppu.nextDot_statLine]

/-- Settles O48: the STAT line is the condition at the new position, and a rising edge of it is the only STAT request. -/
theorem statRisingEdge : Obligations.StatRisingEdge := by
  intro s hon p line
  have hline : s.ppu.nextDot.statCondition = line := rfl
  refine ⟨(congrArg Ppu.statLine (State.ppuTick_ppu hon)).trans hline, ?_⟩
  have hvblank : (if s.ppu.nextDot.ly = 144 ∧ s.ppu.nextDot.dot = 0 then s.ifBits ||| 0b00001#5 else s.ifBits).getLsbD 1 =
      s.ifBits.getLsbD 1 := by
    split_ifs <;> simp
  rw [State.ppuTick_ifBits hon, hline, BitVec.getLsbD_or, hvblank]
  cases line <;> cases s.ppu.statLine <;> rfl

/-! ### Publishing -/

/-- A dot that begins line 144 renders no line (R449, R454). -/
theorem State.renderAt_of_publishing {s : State} (h : s.ppu.nextDot.ly = 144 ∧ s.ppu.nextDot.dot = 0) :
    ({ s with ppu := s.ppu.nextDot } : State).renderAt s.ppu.mode = { s with ppu := s.ppu.nextDot } := by
  have hmode : s.ppu.nextDot.mode = .vblank := by rw [Ppu.nextDot_mode, h.1, h.2]; rfl
  exact if_neg fun hrender => absurd (hmode.symm.trans hrender.2) (by decide)

/-- The dot that begins line 144 copies the back buffer to the front and counts a frame (R454). -/
theorem State.ppuTick_publishing {s : State} (hon : s.ppu.lcdOn = true)
    (hpub : s.ppu.nextDot.ly = 144 ∧ s.ppu.nextDot.dot = 0) :
    s.ppuTick.ppu.front = s.ppu.back ∧ s.ppuTick.ppu.frames = s.ppu.frames + 1 := by
  rw [State.ppuTick_ppu hon, State.renderAt_of_publishing hpub]
  exact ⟨(if_pos hpub).trans (Ppu.nextDot_back s.ppu), if_pos hpub⟩

theorem State.ppuTick_not_publishing {s : State} (hon : s.ppu.lcdOn = true)
    (hpub : ¬(s.ppu.nextDot.ly = 144 ∧ s.ppu.nextDot.dot = 0)) :
    s.ppuTick.ppu.front = s.ppu.front ∧ s.ppuTick.ppu.frames = s.ppu.frames := by
  rw [State.ppuTick_ppu hon]
  exact ⟨if_neg hpub, if_neg hpub⟩

/-- The frames between two states of a run: their count does not fall, the front buffer is kept while it does not rise, and
where it rises VBlank is requested; a VBlank request stays (R401, R454). -/
structure State.Publishes (s t : State) : Prop where
  frames : s.ppu.frames ≤ t.ppu.frames
  front : t.ppu.frames = s.ppu.frames → t.ppu.front = s.ppu.front
  request : t.ppu.frames ≠ s.ppu.frames ∨ s.ifBits.getLsbD 0 = true → t.ifBits.getLsbD 0 = true

theorem State.Publishes.refl (s : State) : s.Publishes s :=
  ⟨Nat.le_refl _, fun _ => rfl, fun h => h.resolve_left (· rfl)⟩

theorem State.Publishes.trans {s t u : State} (h : s.Publishes t) (k : t.Publishes u) : s.Publishes u where
  frames := h.frames.trans k.frames
  front := fun e => by
    have := h.frames
    have := k.frames
    exact (k.front (by omega)).trans (h.front (by omega))
  request := fun e => by
    by_cases hu : u.ppu.frames = t.ppu.frames
    · exact k.request (.inr (h.request (hu ▸ e)))
    · exact k.request (.inl hu)

theorem State.ppuTick_publishes (s : State) : s.Publishes s.ppuTick := by
  cases hon : s.ppu.lcdOn
  case false => rw [State.ppuTick_of_off hon]; exact .refl s
  case true =>
    by_cases hpub : s.ppu.nextDot.ly = 144 ∧ s.ppu.nextDot.dot = 0
    · obtain ⟨-, hframes⟩ := State.ppuTick_publishing hon hpub
      have hrequest : s.ppuTick.ifBits.getLsbD 0 = true := by
        rw [State.ppuTick_ifBits hon, if_pos hpub]
        simp
      exact ⟨by omega, fun e => absurd (hframes.symm.trans e) (Nat.succ_ne_self _), fun _ => hrequest⟩
    · obtain ⟨hfront, hframes⟩ := State.ppuTick_not_publishing hon hpub
      refine ⟨hframes.ge, fun _ => hfront, fun h => ?_⟩
      rw [State.ppuTick_ifBits hon, BitVec.getLsbD_or, if_neg hpub, h.resolve_left (· hframes), Bool.true_or]

theorem State.timerTick_publishes (s : State) : s.Publishes s.timerTick := by
  have hppu := s.timerTick_ppu
  obtain ⟨added, hadded⟩ := s.timerTick_deviceRequests
  refine ⟨by rw [hppu], fun _ => by rw [hppu], fun h => ?_⟩
  rw [hadded, BitVec.getLsbD_or, h.resolve_left (· (by rw [hppu])), Bool.true_or]

theorem State.advance_publishes (s : State) (n : Nat) : s.Publishes (s.advance n) :=
  State.advance_induct (P := State.Publishes) .refl .trans
    (fun s => s.timerTick_publishes.trans s.timerTick.ppuTick_publishes) s n

/-- A T-cycle counts a frame exactly when it reaches dot 65,664 (R451, R454). -/
theorem State.LcdRuns.tick_frames {s : State} (h : s.LcdRuns) :
    s.timerTick.ppuTick.ppu.frames = s.ppu.frames + if s.ppu.position + 1 = 65664 then 1 else 0 := by
  obtain ⟨hinv, hon⟩ := h
  have hppu := s.timerTick_ppu
  rw [← hppu] at hinv hon ⊢
  simp only [← Ppu.nextDot_publishes_iff hinv]
  split_ifs with hpub
  · exact (State.ppuTick_publishing hon hpub).2
  · exact (State.ppuTick_not_publishing hon hpub).2

/-- The frames of `n` T-cycles: how often the position reaches dot 65,664, which is 4,560 dots before the end of a frame
(R451). -/
theorem State.LcdRuns.advance_frames {s : State} (h : s.LcdRuns) (n : Nat) :
    (s.advance n).ppu.frames + (s.ppu.position + 4560) / 70224 = s.ppu.frames + (s.ppu.position + 4560 + n) / 70224 := by
  induction n with
  | zero => rfl
  | succ n ih =>
    rw [State.advance_succ_last, (h.advance n).tick_frames, h.advance_position]
    split <;> omega

/-- Settles O47: the count, the run of T-cycles, and the one T-cycle that publishes. -/
theorem framesPublished : Obligations.FramesPublished := by
  intro n s hinv hon
  have hruns : s.LcdRuns := ⟨hinv, hon⟩
  have hpublishes := s.advance_publishes n
  refine ⟨hruns.advance_frames n, hpublishes.front, fun hnew => ?_, fun hnew => hpublishes.request (.inl hnew)⟩
  obtain ⟨hinv', hon'⟩ := hruns.advance n
  rw [State.advance_succ_last] at hnew ⊢
  generalize s.advance n = t at *
  have hppu := t.timerTick_ppu
  rw [← hppu] at hnew hinv' hon' ⊢
  by_cases hpub : t.timerTick.ppu.nextDot.ly = 144 ∧ t.timerTick.ppu.nextDot.dot = 0
  · exact (State.ppuTick_publishing hon' hpub).1
  · exact absurd (State.ppuTick_not_publishing hon' hpub).2 hnew

/-! ### Switching the LCD -/

/-- The PPU that switching the LCD on with `v` leaves, but for the STAT line (R455). -/
def Ppu.switchedOn (p : Ppu) (v : Byte) : Ppu :=
  { p with lcdc := v, ly := 0, dot := 0, mode := .searchOam, winLine := 0 }

/-- The STAT line at the first dot: LYC against line 0, and mode 2 (R453, R455). -/
theorem Ppu.switchedOn_statCondition (p : Ppu) (v : Byte) :
    (p.switchedOn v).statCondition = (p.statW.getLsbD 3 && decide (p.lyc = 0) || p.statW.getLsbD 2) := by
  have hmatch : (p.switchedOn v).lyMatch = decide (p.lyc = 0) := by
    rw [Bool.eq_iff_iff, Ppu.lyMatch_iff, decide_eq_true_iff, ← BitVec.toNat_inj]
    exact eq_comm
  have hmodes : (p.switchedOn v).mode = .searchOam := rfl
  rw [Ppu.statCondition, hmatch, hmodes]
  change (_ && _ || _ && true || _ && false || _ && false) = _
  simp only [Bool.and_true, Bool.and_false, Bool.or_false]
  rfl

/-- Everything `UpdateStatLine()` does with the LCD on (R453). -/
theorem State.updateStatLine_of_on {s : State} (hon : s.ppu.lcdOn = true) :
    s.updateStatLine =
      { s with
        ifBits := if s.ppu.statCondition = true ∧ s.ppu.statLine = false then s.ifBits ||| 0b00010#5 else s.ifBits
        ppu := { s.ppu with statLine := s.ppu.statCondition } } := by
  have hbits := s.updateStatLine_ifBits
  have hppu := s.updateStatLine_ppu
  simp only [hon, true_and, Bool.true_and] at hbits hppu
  rw [show s.updateStatLine = _ from s.updateStatLine_devicesOnly, hbits, hppu, State.updateStatLine_timer]

section
variable {s : State} {v : Byte}

theorem State.writeLcdc_same (h : s.ppu.lcdc.getLsbD 7 = v.getLsbD 7) :
    s.writeLcdc v = { s with ppu := { s.ppu with lcdc := v } } := by
  unfold State.writeLcdc Ppu.lcdOn
  rw [h, if_neg (by simp), if_neg (by simp)]

theorem State.writeLcdc_off (hon : s.ppu.lcdc.getLsbD 7 = true) (hv : v.getLsbD 7 = false) :
    s.writeLcdc v = { s with ppu := { s.ppu with lcdc := v, ly := 0, dot := 0, mode := .hblank, statLine := false } } := by
  unfold State.writeLcdc Ppu.lcdOn
  rw [hon, hv]
  rfl

/-- Switching the LCD on evaluates the STAT line once, at the first dot (R453, R455). -/
theorem State.writeLcdc_on (hoff : s.ppu.lcdc.getLsbD 7 = false) (hv : v.getLsbD 7 = true) :
    s.writeLcdc v = ({ s with ppu := s.ppu.switchedOn v } : State).updateStatLine := by
  unfold State.writeLcdc Ppu.lcdOn
  rw [hoff, hv]
  rfl

end

/-- Settles O49: the three cases of a write to LCDC, by bit 7 before and after. -/
theorem lcdOnAndOff : Obligations.LcdOnAndOff := by
  intro s v
  rw [show s.busWrite 0xFF40 v = s.writeLcdc v from State.busWrite_io s rfl rfl v]
  refine ⟨State.writeLcdc_same, State.writeLcdc_off, fun hoff hv => ?_⟩
  rw [State.writeLcdc_on hoff hv, State.updateStatLine_of_on (s := { s with ppu := s.ppu.switchedOn v }) hv]
  dsimp only
  rw [Ppu.switchedOn_statCondition]
  rfl

end Sys2Proof.Machine
end

section
/-! The sources of a line's pixels (R457 to R460): the background and window, and the selection and drawing order of the
objects. -/

namespace Sys2Proof.Machine

/-! ### The background and window -/

theorem toNat_two_planes (hi lo : Bool) : (BitVec.ofBool hi ++ BitVec.ofBool lo).toNat = 2 * hi.toNat + lo.toNat := by
  decide +revert

/-- A colour index is its two bit planes, the high one first (R457). -/
theorem State.tileColour_toNat (s : State) (tile row col : Nat) :
    (s.tileColour tile row col).toNat =
      2 * ((s.mem.read (tile + 2 * row + 1)).getLsbD (7 - col)).toNat +
        ((s.mem.read (tile + 2 * row)).getLsbD (7 - col)).toNat :=
  toNat_two_planes _ _

/-- A shade is the palette's two bits at twice the colour index (R445, R446). -/
theorem paletteShade_eq (pal : Byte) (c : BitVec 2) : paletteShade pal c = pal.extractLsb' (2 * c.toNat) 2 :=
  BitVec.setWidth_ushiftRight_eq_extractLsb ..

/-- The window's left edge is WX - 7, which may be off the screen (R458). -/
theorem Ppu.windowCovers_eq (p : Ppu) (x : Nat) :
    p.windowCovers x =
      (p.lcdc.getLsbD 5 && decide (p.wy.toNat ≤ p.ly) && decide (p.wx.toNat ≤ 166) &&
        decide ((p.wx.toNat : Int) - 7 ≤ x)) := by
  have hedge : p.wx.toNat ≤ x + 7 ↔ (p.wx.toNat : Int) - 7 ≤ x := by omega
  rw [Ppu.windowCovers, decide_eq_decide.2 hedge]

/-- The tile of an index: unsigned from 0x8000, or signed from 0x9000 (R457). -/
theorem Ppu.bgTile_eq (p : Ppu) (t : Byte) :
    p.bgTile t =
      if p.lcdc.getLsbD 4 then 0x8000 + 16 * t.toNat
      else if t.toNat < 128 then 0x9000 + 16 * t.toNat else 0x8000 + 16 * t.toNat := by
  have ht := t.isLt
  rw [Ppu.bgTile, BitVec.toInt_eq_toNat_cond]
  split_ifs <;> omega

/-- Settles O51: the source of the pixel is the window's or the background's, and its colour is that of the tile there. -/
theorem backgroundPixel : Obligations.BackgroundPixel := by
  intro s x hx p window px py mapBit t tile lo hi index
  have hwindow : p.windowCovers x = window := p.windowCovers_eq x
  have hsource : p.bgSource x = (px, py, if mapBit then 0x9C00 else 0x9800) := by
    rw [Ppu.bgSource, hwindow]
    have hleft : x + 7 - p.wx.toNat = ((x : Int) - ((p.wx.toNat : Int) - 7)).toNat := by omega
    by_cases hw : window = true
    · simp [px, py, mapBit, hw, hleft]
    · simp [px, py, mapBit, hw]
  refine ⟨fun hon => ?_, fun hoff => ?_⟩
  · have hcolour : s.bgColour x = s.tileColour tile (py % 8) (px % 8) := by
      rw [State.bgColour, if_pos hon, show s.ppu.bgSource x = _ from hsource]
      exact congrArg (s.tileColour · (py % 8) (px % 8)) (Ppu.bgTile_eq p t)
    have hindex : (s.bgColour x).toNat = index := by rw [hcolour, State.tileColour_toNat]
    refine ⟨hindex, ?_⟩
    rw [Ppu.bgShade, if_pos hon, paletteShade_eq, hindex]
  · have hlow : ¬s.ppu.lcdc.getLsbD 0 = true := Bool.eq_false_iff.1 hoff
    exact ⟨if_neg hlow, if_neg hlow⟩

/-! ### The objects of a line -/

/-- An object is on the line in signed arithmetic (R459). -/
theorem Ppu.objOnLine_eq (p : Ppu) (o : Obj) :
    p.objOnLine o =
      (decide ((o.y.toNat : Int) - 16 ≤ p.ly) &&
        decide ((p.ly : Int) < o.y.toNat - 16 + (if p.lcdc.getLsbD 2 then 16 else 8 : Int))) := by
  have htop : o.y.toNat ≤ p.ly + 16 ↔ (o.y.toNat : Int) - 16 ≤ p.ly := by omega
  have hbottom : p.ly + 16 < o.y.toNat + p.objHeight ↔
      (p.ly : Int) < o.y.toNat - 16 + (if p.lcdc.getLsbD 2 then 16 else 8 : Int) := by
    unfold Ppu.objHeight
    split_ifs <;> omega
  rw [Ppu.objOnLine, decide_eq_decide.2 htop, decide_eq_decide.2 hbottom]

/-! ### The drawing order -/

/-- An object is put behind those whose X byte is not greater, so it is added once (R460). -/
theorem insertByX_perm (o : Obj) (l : List Obj) : (insertByX o l).Perm (o :: l) := by
  induction l with
  | nil => exact .refl _
  | cons p rest ih =>
    unfold insertByX
    split_ifs
    · exact .refl _
    · exact (ih.cons p).trans (.swap o p rest)

/-- X bytes ascending (R460). -/
def XSorted (l : List Obj) : Prop := l.Pairwise fun o p => o.x.toNat ≤ p.x.toNat

theorem XSorted.insertByX {l : List Obj} (h : XSorted l) (o : Obj) : XSorted (insertByX o l) := by
  induction l with
  | nil => exact List.pairwise_singleton _ o
  | cons p rest ih =>
    obtain ⟨hp, hrest⟩ := List.pairwise_cons.1 h
    unfold Machine.insertByX
    split_ifs with hlt
    · refine List.pairwise_cons.2 ⟨fun q hq => ?_, h⟩
      rcases List.mem_cons.1 hq with rfl | hq
      · exact hlt.le
      · exact hlt.le.trans (hp q hq)
    · refine List.pairwise_cons.2 ⟨fun q hq => ?_, ih hrest⟩
      rcases List.mem_cons.1 ((insertByX_perm o rest).mem_iff.1 hq) with rfl | hq
      · exact Nat.le_of_not_lt hlt
      · exact hp q hq

/-- Among the objects with one X byte, the one put last is behind the others (R460). -/
theorem filter_insertByX {l : List Obj} (h : XSorted l) (o : Obj) (x : Byte) :
    (insertByX o l).filter (fun o => o.x == x) = (l ++ [o]).filter (fun o => o.x == x) := by
  induction l with
  | nil => rfl
  | cons p rest ih =>
    obtain ⟨hp, hrest⟩ := List.pairwise_cons.1 h
    unfold insertByX
    split_ifs with hlt
    · have hnone : o.x = x → (p :: rest).filter (fun o => o.x == x) = [] := by
        rintro rfl
        refine List.filter_eq_nil_iff.2 fun q hq => ?_
        have hq : o.x.toNat < q.x.toNat := by
          rcases List.mem_cons.1 hq with rfl | hq
          · exact hlt
          · exact hlt.trans_le (hp q hq)
        exact fun e => absurd (congrArg BitVec.toNat (eq_of_beq e)) hq.ne'
      by_cases hx : o.x = x
      · rw [List.filter_append, hnone hx, List.filter_cons_of_pos (by simp [hx]), hnone hx, List.nil_append]
        simp [hx]
      · rw [List.filter_append, List.filter_cons_of_neg (by simp [hx])]
        simp [hx]
    · rw [List.filter_cons, ih hrest, List.cons_append, List.filter_cons]

/-- The fold of the drawing order, over the objects put before (R460). -/
theorem foldl_insertByX (objs : List Obj) {l : List Obj} (h : XSorted l) :
    (objs.foldl (fun l o => insertByX o l) l).Perm (l ++ objs) ∧ XSorted (objs.foldl (fun l o => insertByX o l) l) ∧
      ∀ x : Byte, (objs.foldl (fun l o => insertByX o l) l).filter (fun o => o.x == x) =
        (l ++ objs).filter (fun o => o.x == x) := by
  induction objs generalizing l with
  | nil => simpa using h
  | cons o rest ih =>
    obtain ⟨hperm, hsorted, hfilter⟩ := ih (h.insertByX o)
    have happend : l ++ o :: rest = (l ++ [o]) ++ rest := by simp
    refine ⟨hperm.trans ?_, hsorted, fun x => (hfilter x).trans ?_⟩
    · rw [happend]
      exact ((insertByX_perm o l).trans (List.perm_append_singleton o l).symm).append_right rest
    · rw [happend, List.filter_append, filter_insertByX h, List.filter_append _ rest]

/-- Settles O52: the selection is a filter of the records, and the drawing order a stable insertion sort of it. -/
theorem objectSelection : Obligations.ObjectSelection := by
  intro s byte height onLine
  obtain ⟨hperm, hsorted, hfilter⟩ := foldl_insertByX s.lineObjects (l := []) List.Pairwise.nil
  refine ⟨?_, ?_, hperm, hsorted, hfilter⟩
  · have honLine : s.ppu.objOnLine ∘ s.obj = onLine := funext fun j => s.ppu.objOnLine_eq (s.obj j)
    rw [State.lineObjects, List.filter_map, honLine, ← List.map_take]
    rfl
  · exact List.length_take_le _ _

end Sys2Proof.Machine
end

section
/-! The rendering of a line (R449, R456, R460): which dot draws it, and which object wins a pixel of it. -/

namespace Sys2Proof.Machine

/-! ### The pixel of an object -/

/-- Whether an object covers screen column `x`: its columns are [X - 8, X) (R460). -/
def Obj.covers (o : Obj) (x : Nat) : Bool := decide ((o.x.toNat : Int) - 8 ≤ x) && decide (x < o.x.toNat)

/-- The row of an object on the current line, flipped by bit 6 of `attr` (R460). -/
def Ppu.objRow (p : Ppu) (o : Obj) : Nat :=
  if o.attr.getLsbD 6 then ((p.objHeight : Int) - 1 - ((p.ly : Int) - ((o.y.toNat : Int) - 16))).toNat
  else ((p.ly : Int) - ((o.y.toNat : Int) - 16)).toNat

/-- The column of an object at screen column `x`, flipped by bit 5 of `attr` (R460). -/
def Obj.column (o : Obj) (x : Nat) : Nat :=
  if o.attr.getLsbD 5 then (7 - ((x : Int) - ((o.x.toNat : Int) - 8))).toNat
  else ((x : Int) - ((o.x.toNat : Int) - 8)).toNat

/-- The tile of an object: the even or the odd one of a pair in 8x16 mode (R460). -/
def Ppu.objTile (p : Ppu) (o : Obj) : Nat :=
  if p.objHeight = 16 then (o.tile &&& 0xFE).toNat + (if 8 ≤ p.objRow o then 1 else 0) else o.tile.toNat

theorem Ppu.objHeight_cases (p : Ppu) : p.objHeight = 8 ∨ p.objHeight = 16 := by
  unfold Ppu.objHeight
  split_ifs <;> simp

/-- An object on the line has its row there inside its height (R459). -/
theorem Ppu.objRow_lt {p : Ppu} {o : Obj} (h : p.objOnLine o = true) : p.objRow o < p.objHeight := by
  simp only [Ppu.objOnLine, Bool.and_eq_true, decide_eq_true_eq] at h
  unfold Ppu.objRow
  rcases p.objHeight_cases with hh | hh <;> rw [hh] at h ⊢ <;> split_ifs <;> omega

/-- The colour of an object's pixel is that of its tile at its row and column (R460). -/
theorem State.objColour_eq (s : State) {o : Obj} {x : Nat} (hline : s.ppu.objOnLine o = true)
    (hcovers : o.covers x = true) :
    s.objColour o x = s.tileColour (0x8000 + 16 * s.ppu.objTile o) (s.ppu.objRow o % 8) (o.column x) := by
  simp only [Ppu.objOnLine, Bool.and_eq_true, decide_eq_true_eq] at hline
  simp only [Obj.covers, Bool.and_eq_true, decide_eq_true_eq] at hcovers
  have hrow : (if o.attr.getLsbD 6 then s.ppu.objHeight - 1 - (s.ppu.ly + 16 - o.y.toNat)
      else s.ppu.ly + 16 - o.y.toNat) = s.ppu.objRow o := by
    unfold Ppu.objRow
    split_ifs <;> omega
  have hcolumn : (if o.attr.getLsbD 5 then 7 - (x + 8 - o.x.toNat) else x + 8 - o.x.toNat) = o.column x := by
    unfold Obj.column
    split_ifs <;> omega
  unfold State.objColour
  dsimp only
  rw [hrow, hcolumn]
  rfl

/-- The winning object's pixel: the first in priority order that covers `x` with a colour other than 0 (R460). -/
theorem State.objPixel_eq (s : State) (objs : List Obj) (x : Nat) :
    s.objPixel objs x =
      (objs.find? fun o => o.covers x && decide (s.objColour o x ≠ 0)).map fun o => (o, s.objColour o x) := by
  have hcovers : ∀ o : Obj, (decide (o.x.toNat ≤ x + 8) && decide (x < o.x.toNat)) = o.covers x := fun o => by
    have hleft : o.x.toNat ≤ x + 8 ↔ (o.x.toNat : Int) - 8 ≤ x := by omega
    rw [Obj.covers, decide_eq_decide.2 hleft]
  unfold State.objPixel
  simp only [hcovers]
  induction objs with
  | nil => rfl
  | cons o rest ih =>
    rw [List.findSome?_cons, List.find?_cons, ih]
    cases o.covers x
    · rfl
    · by_cases hc : s.objColour o x = 0#2 <;> simp [hc]

/-! ### The line -/

theorem State.getElem?_lineShades (s : State) {x : Nat} (hx : x < 160) :
    s.lineShades[x]? = some (s.pixel s.drawOrder x) := by
  rw [State.lineShades, List.getElem?_map, List.getElem?_range (show x < Config.fbWidth from hx)]
  rfl

/-- The objects drawn are on the line (R459). -/
theorem State.objOnLine_of_mem_drawOrder {s : State} {o : Obj} (h : o ∈ s.drawOrder) : s.ppu.objOnLine o = true := by
  obtain ⟨hperm, -, -⟩ := foldl_insertByX s.lineObjects (l := []) List.Pairwise.nil
  have hmem : o ∈ s.lineObjects := hperm.mem_iff.1 h
  exact (List.mem_filter.1 (List.mem_of_mem_take hmem)).2

/-- A pixel: the winning object's shade, unless the background is before it or no object wins (R457, R460). -/
theorem State.pixel_eq (s : State) (objs : List Obj) (x : Nat) :
    s.pixel objs x =
      match s.ppu.lcdc.getLsbD 1, objs.find? fun o => o.covers x && decide (s.objColour o x ≠ 0) with
      | true, some o =>
        if o.attr.getLsbD 7 = true ∧ s.bgColour x ≠ 0 then s.ppu.bgShade (s.bgColour x)
        else paletteShade (if o.attr.getLsbD 4 then s.ppu.obp1 else s.ppu.obp0) (s.objColour o x)
      | _, _ => s.ppu.bgShade (s.bgColour x) := by
  unfold State.pixel
  rw [State.objPixel_eq]
  cases s.ppu.lcdc.getLsbD 1
  · rfl
  · cases objs.find? fun o => o.covers x && decide (s.objColour o x ≠ 0) with
    | none => rfl
    | some o => simp

/-- What a line looks like does not depend on the dot or the mode (R456). -/
theorem State.lineShades_setDot (s : State) (d : Nat) (m : PpuMode) :
    ({ s with ppu := { s.ppu with dot := d, mode := m } } : State).lineShades = s.lineShades := rfl

/-- The mode 3 to mode 0 change renders the line, and any other dot renders nothing (R449, R456). -/
theorem State.ppuTick_back {s : State} (h : s.ppu.Inv) (hon : s.ppu.lcdOn = true) :
    s.ppuTick.ppu.back =
      if s.ppu.ly < 144 ∧ s.ppu.dot = 251 then s.ppu.back.set s.ppu.ly s.lineShades else s.ppu.back := by
  have hends := Ppu.endsDrawing_iff h hon
  rw [show s.ppuTick.ppu.back = _ from congrArg Ppu.back (State.ppuTick_ppu hon), State.renderAt]
  by_cases hdraw : s.ppu.ly < 144 ∧ s.ppu.dot = 251
  · have hnext : s.ppu.nextDot = { s.ppu with dot := 252, mode := modeAt s.ppu.ly 252 } := by
      rw [Ppu.nextDot, hdraw.2, if_neg (by decide)]
    rw [if_pos (hends.2 hdraw), if_pos hdraw, hnext]
    exact congrArg (s.ppu.back.set s.ppu.ly) (s.lineShades_setDot 252 _)
  · rw [if_neg (mt hends.1 hdraw), if_neg hdraw]
    exact Ppu.nextDot_back s.ppu

/-- Settles O50: one dot renders the line, and the winner of each pixel is an object of the line, whose row and column the
signed arithmetic of the statement gives. -/
theorem lineRenderedAtHblank : Obligations.LineRenderedAtHblank := by
  intro s hinv hon
  have hback := State.ppuTick_back hinv hon
  refine ⟨fun hdraw => ?_, fun hdraw => hback.trans (if_neg hdraw), ?_⟩
  · have hly : s.ppu.ly < s.ppu.back.length := by rw [hinv.back_sized.1]; exact hdraw.1
    rw [if_pos hdraw] at hback
    refine ⟨hback, s.length_lineShades, ?_⟩
    rw [hback, List.getElem?_set_self hly]
  · intro x hx p h colour covers bg
    have hcolour : ∀ o ∈ s.drawOrder, covers o = true → (s.objColour o x).toNat = colour o := by
      intro o ho hcovers
      have hline := State.objOnLine_of_mem_drawOrder ho
      have hrow : s.ppu.objRow o % 8 = if h = 16 then s.ppu.objRow o % 8 else s.ppu.objRow o := by
        have hlt : s.ppu.objRow o < h := Ppu.objRow_lt hline
        have hheight : h = 8 ∨ h = 16 := s.ppu.objHeight_cases
        split_ifs with hbig
        · rfl
        · exact Nat.mod_eq_of_lt (hlt.trans_eq (hheight.resolve_right hbig))
      rw [State.objColour_eq s hline hcovers, State.tileColour_toNat, hrow]
      rfl
    have hwins : (s.drawOrder.find? fun o => o.covers x && decide (s.objColour o x ≠ 0)) =
        s.drawOrder.find? fun o => covers o && decide (colour o ≠ 0) := by
      refine List.find?_congr fun o ho => ?_
      change (covers o && _) = _
      cases hcovers : covers o
      · rfl
      · rw [Bool.true_and, Bool.true_and, ← hcolour o ho hcovers, decide_eq_decide]
        exact not_congr BitVec.toNat_inj.symm
    rw [State.getElem?_lineShades s hx, State.pixel_eq, hwins, show s.ppu = p from rfl]
    cases hwinner : s.drawOrder.find? fun o => covers o && decide (colour o ≠ 0) with
    | none => cases p.lcdc.getLsbD 1 <;> rfl
    | some o =>
      have hwon : (covers o && decide (colour o ≠ 0)) = true :=
        List.find?_some (p := fun o => covers o && decide (colour o ≠ 0)) hwinner
      obtain ⟨hcovers, -⟩ := Bool.and_eq_true_iff.1 hwon
      have hindex := hcolour o (List.mem_of_find?_eq_some hwinner) hcovers
      cases p.lcdc.getLsbD 1
      · rfl
      · dsimp only
        rw [paletteShade_eq, hindex]

end Sys2Proof.Machine
end

section
/-! Breakpoints between Updates (R480, R481), and the run to N (R488). -/

namespace Sys2Proof.Machine

/-! ### The breakpoint sequence -/

/-- Removing the index that `AddBreakpoint` returned restores the state (R481). -/
theorem State.removeBreakpoint_addBreakpoint (s : State) (bp : Breakpoint) :
    (s.addBreakpoint bp).1.removeBreakpoint s.breakpoints.length = .ok s := by
  have hlt : s.breakpoints.length < (s.breakpoints ++ [bp]).length := by simp
  have herase : (s.breakpoints ++ [bp]).eraseIdx s.breakpoints.length = s.breakpoints := by
    rw [List.eraseIdx_append_of_length_le (Nat.le_refl _), Nat.sub_self, List.eraseIdx_cons_zero, List.append_nil]
  unfold State.removeBreakpoint State.addBreakpoint
  rw [if_pos hlt, herase]

theorem State.removeBreakpoint_of_lt {s : State} {i : Nat} (h : i < s.breakpoints.length) :
    s.removeBreakpoint i = .ok { s with breakpoints := s.breakpoints.take i ++ s.breakpoints.drop (i + 1) } := by
  rw [State.removeBreakpoint, if_pos h, List.eraseIdx_eq_take_drop_succ]

theorem State.removeBreakpoint_of_ge {s : State} {i : Nat} (h : s.breakpoints.length ≤ i) :
    s.removeBreakpoint i = .error .breakpointIndexOutOfRange := if_neg (Nat.not_lt.2 h)

/-! ### Stepping over a breakpoint -/

/-- Whatever instruction runs, it keeps `bp_resume` and the host side and spends at least 4 cycles (R155). -/
theorem executeOne_spends (s : State) :
    ∃ t, executeOne s = .next t ∧ t.bpResume = s.bpResume ∧ t.host = s.host ∧ s.cycles + 4 ≤ t.cycles := by
  obtain ⟨t, -, hcpu, -, hone⟩ := executeOne_eq s
  have hbp := hcpu.bpResume
  have hhost := hcpu.host
  obtain ⟨n, hn, hcost⟩ := hcpu.cost
  rw [State.fetch_snd] at hbp hhost hcost
  have hpos : ∀ n ∈ [4, 8, 12, 16, 20, 24], 4 ≤ n := by decide
  refine ⟨_, hone, (State.advance_bpResume _ _).trans hbp, (State.advance_host _ _).trans hhost, ?_⟩
  rw [State.advance_cycles, hcost]
  exact Nat.add_le_add_left (hpos n hn) _

/-- A Step off a breakpoint executes the one instruction at the PC and pauses the host (R480). -/
theorem State.stepOnce_of_breakpoint {s : State} (hrunning : s.isRunning = true)
    (hpaused : s.runState = .breakpointPaused) (hdue : s.ime = false ∨ s.pending = 0) :
    s.stepOnce = .ok (pauseAfter (executeOne
      { s with runState := .running, bpResume := false, ime := s.ime || s.eiPending, eiPending := false })) := by
  have hleft : s.leaveBreakpoint = { s with runState := .running, bpResume := true } := if_pos hpaused
  have hstep : update s.leaveBreakpoint = executeOne s.leaveBreakpoint.beginInstr := by
    rw [hleft]
    exact step_of_instruction (s := { s with runState := .running, bpResume := true }) rfl hdue rfl
  unfold State.stepOnce State.isPaused
  rw [hrunning, hpaused, hstep, hleft]
  simp [State.beginInstr]

/-- Settles O56: the sequence's operations, and the Step off a breakpoint. -/
theorem breakpointControl : Obligations.BreakpointControl := by
  intro s bp i
  refine ⟨rfl, List.getElem?_concat_length, s.removeBreakpoint_addBreakpoint bp, State.removeBreakpoint_of_lt,
    State.removeBreakpoint_of_ge, fun hrunning hpaused hdue => ?_⟩
  have hstep := State.stepOnce_of_breakpoint hrunning hpaused hdue
  obtain ⟨t, ht, hbp, hhost, hcycles⟩ := executeOne_spends
    { s with runState := .running, bpResume := false, ime := s.ime || s.eiPending, eiPending := false }
  exact ⟨t, ht, hstep.trans (by rw [ht, pauseAfter, hhost]), hbp, hcycles⟩

/-! ### The run to N -/

/-- Where a run to `n` may end (R488). -/
def State.EndsRun (n : Nat) (t : State) : Prop :=
  (n ≤ t.cycles ∨ t.runState = .breakpointPaused) ∧ t.cycles < n + 24

/-- A run ends at N or at a breakpoint, given a turn for each cycle that is left. -/
theorem runLoop_ends (n turns : Nat) {s : State} (henough : n ≤ s.cycles + turns ∨ s.runState = .breakpointPaused)
    (hbound : s.cycles < n + 24) : ∃ t, runLoop n turns s = .next t ∧ t.EndsRun n := by
  induction turns generalizing s with
  | zero => exact ⟨s, rfl, by simpa using henough, hbound⟩
  | succ turns ih =>
    unfold runLoop
    split_ifs with hgo
    · obtain ⟨t, ht, hpaused | ⟨k, hk, hcost⟩⟩ := step_spends s
      · have hcycles : t.cycles = s.cycles := by rw [hpaused]
        rw [show update s = .next t from ht]
        exact ih (.inr (by rw [hpaused])) (by omega)
      · have hrange : ∀ k ∈ [4, 8, 12, 16, 20, 24], 4 ≤ k ∧ k ≤ 24 := by decide
        obtain ⟨hlow, hhigh⟩ := hrange k hk
        rw [show update s = .next t from ht]
        have hleft := henough.resolve_right hgo.2
        exact ih (.inl (by omega)) (by omega)
    · refine ⟨s, rfl, ?_, hbound⟩
      rcases Nat.lt_or_ge s.cycles n with hlt | hge
      · exact .inr (not_not.1 fun hrun => hgo ⟨hlt, hrun⟩)
      · exact .inl hge

/-- Settles O57: a Reset leaves 0 cycles, so N + 1 turns are enough. -/
theorem runToOvershoot : Obligations.RunToOvershoot := fun s n =>
  have hcycles : s.hostReset.cycles = 0 := rfl
  runLoop_ends n (n + 1) (.inl (by omega)) (by omega)

end Sys2Proof.Machine
end

section
/-! What a Reset keeps, and what it leaves of everything else in the two boot modes (R37, R520, R524). -/

namespace Sys2Proof.Machine

/-- A Reset sees of the state before it only what it keeps (R520). -/
theorem State.hostReset_congr {s t : State} (hparams : s.params = t.params) (hcart : s.cart = t.cart)
    (hbreakpoints : s.breakpoints = t.breakpoints) (hhost : s.host = t.host) : s.hostReset = t.hostReset := by
  unfold State.hostReset
  rw [hparams, hcart, hbreakpoints, hhost]

@[simp] theorem State.hostReset_params (s : State) : s.hostReset.params = s.params := rfl
@[simp] theorem State.hostReset_cart (s : State) : s.hostReset.cart = s.cart := rfl
@[simp] theorem State.hostReset_breakpoints (s : State) : s.hostReset.breakpoints = s.breakpoints := rfl
@[simp] theorem State.hostReset_host (s : State) : s.hostReset.host = s.host := rfl

/-- The four kept fields are the only arguments of a Reset, so a second one changes nothing. -/
@[simp] theorem State.hostReset_hostReset (s : State) : s.hostReset.hostReset = s.hostReset :=
  State.hostReset_congr s.hostReset_params s.hostReset_cart s.hostReset_breakpoints s.hostReset_host

/-- BOOT_MODE `skip` is the mode of power-on (R36). -/
theorem State.hostReset_of_skip {s : State} (hmode : s.params.bootMode = .skip) :
    s.hostReset =
      { State.reset with params := s.params, cart := s.cart, breakpoints := s.breakpoints, host := s.host } := by
  unfold State.hostReset State.resetKeeping
  rw [hmode]
  rfl

/-- BOOT_MODE `boot_rom` differs from power-on in the registers and in the mapped boot ROM (R37). -/
theorem State.hostReset_of_bootRom {s : State} {image : Memory} (hmode : s.params.bootMode = .bootRom image) :
    s.hostReset =
      { State.reset with
        params := s.params, cart := s.cart, breakpoints := s.breakpoints, host := s.host, bootMapped := true
        regs := Regs.zero } := by
  unfold State.hostReset State.resetKeeping
  rw [hmode]
  rfl

/-- Settles O54: each part is a law of `State.hostReset`. -/
theorem resetForgets : Obligations.ResetForgets := fun s _ =>
  ⟨State.hostReset_congr, s.hostReset_params, s.hostReset_cart, s.hostReset_breakpoints, s.hostReset_host,
    s.hostReset_hostReset, State.hostReset_of_skip, fun _ => State.hostReset_of_bootRom⟩

end Sys2Proof.Machine
end
